-- ==== Sys2Proof/Word.lean ====
section
/-! DEFINITION. The words of the BL3216: bytes, 33-bit timestamps, 32-bit stamps and numbers, 4-bit continuity counters. -/

namespace Sys2Proof

/-- One byte of a cell, a record or a message. -/
abbrev Byte := BitVec 8

/-- A PTS, a DTS, a rebase offset or an anchor: a count at 90 kHz, taken modulo 2^33 (conventions, Modular time). -/
abbrev Pts := BitVec 33

/-- An arrival stamp, or a feed's written count and absolute cell numbers, all taken modulo 2^32 (R25, R34). -/
abbrev Stamp := BitVec 32

/-- A continuity counter, modulo 16 (R58). -/
abbrev Cc := BitVec 4

/-- A set of channels: bit `c` stands for channel `c` (R160, R168). -/
abbrev ChannelMask := BitVec 32

end Sys2Proof
end

