-- ==== Sys2Proof/Syntax.lean ====
section
/-! DEFINITION. The commands of the BL3216: one constructor for each row of spec/opcode_table.json, with the row's operands. -/

namespace Sys2Proof

/-- The memory controller's answer to a transaction: OK with the bytes read (none for a write), or ERROR (section 1.1). -/
inductive Answer where
  | ok (data : List Byte)
  | error
  deriving DecidableEq, Repr

/-- A stretch of the alert line that begins with a falling edge: the house time of the first tick that reads low, and the
house times, strictly rising, of the edges that follow it, a rising edge first (R137, R138). -/
structure Wave where
  fall : Nat
  toggles : List Nat
  deriving DecidableEq, Repr

/-- The body of a CHANNEL_SET as it stands in its record: PIDs of VIDEO to DATA2 and the cue PID with FFFFh for absent,
limits with FFFFFFFFh for the default (section 11.3). -/
structure ChannelSetFields where
  channel : Nat
  enable : Nat
  pids : List Nat
  cuePid : Nat
  policy : Nat
  lateTolerance : Nat
  maxBreak : Nat
  returnLimit : Nat
  clockTolerance : Nat
  deriving DecidableEq, Repr

/-- The body of a CLIP_LOAD; `base` is the eight bytes 8-15, and `entries` the eight map entries as PID and role code. -/
structure ClipLoadFields where
  clip : Nat
  mapCount : Nat
  base : Nat
  cells : Nat
  crc : Nat
  entries : List (Nat × Nat)
  deriving DecidableEq, Repr

/-- The body of a BIND: `key` is 0-255 or FFFFh for ANY, `clips` the four clip numbers of the record. -/
structure BindFields where
  channel : Nat
  podLength : Nat
  key : Nat
  uses : Nat
  clips : List Nat
  deriving DecidableEq, Repr

/-- The body of a WINDOW_ADD; `start` and `stop` are the eight bytes each of its start and end. -/
structure WindowAddFields where
  window : Nat
  channel : Nat
  feed : Nat
  start : Nat
  stop : Nat
  deriving DecidableEq, Repr

/-- The body of an ALERT_SEND. -/
structure AlertSendFields where
  alert : Nat
  level : Nat
  groupMask : Nat
  feed : Nat
  seconds : Nat
  deriving DecidableEq, Repr

/-- The commands. `txn` names a downstream transaction by the tag the part gave it; a directive carries its record's
sequence number and its slot, since every response handed for it carries them (R187). -/
inductive Instr where
  /-- Power-on (R194, R17). -/
  | powerOn
  /-- RESET goes low (R17). -/
  | resetArrival
  /-- The rising edge of RESET (R192). -/
  | resetRelease
  /-- The boot record has been read over SPI (R192). -/
  | bootRecordRead (record : List Byte)
  /-- The reads of the directive tail word and the response head word complete (R193). -/
  | bootWordReadsComplete (tail head : Answer)
  /-- The stream processor writes at the upstream port (R5). -/
  | upstreamWrite (tag addr len : Nat) (data : List Byte) (enables : List Bool)
  /-- The stream processor reads at the upstream port (R10). -/
  | upstreamRead (tag addr len : Nat)
  /-- The memory controller accepts a transaction and the arbiter grants the port (R14). -/
  | downstreamGrant
  /-- Memory answers an upstream transaction or the network fetch made for one (R12). -/
  | passedTransactionComplete (txn : Nat) (answer : Answer)
  /-- A forwarded ring write completes OK (R8). -/
  | ringWriteComplete (txn : Nat)
  /-- A forwarded write of the whole directive tail word completes OK (R9, R186). -/
  | directiveTailWrite (txn : Nat)
  /-- A forwarded write of the whole response head word completes OK (R9, R189). -/
  | responseHeadWrite (txn : Nat)
  /-- A forwarded write of part of a watched word completes OK (R9). -/
  | partialWatchedWrite (txn : Nat)
  /-- A ready read of the channel is taken (R44, R45). -/
  | takeRead (channel : Nat)
  /-- The source read of a clip cell completes (R50). -/
  | clipCellArrival (txn : Nat) (answer : Answer)
  /-- The source read of a feed cell completes (R51). -/
  | feedCellArrival (txn : Nat) (answer : Answer)
  /-- The directive unit requests the fetch of the next slot (R186). -/
  | directiveFetch
  /-- A directive fetch completes (R186, R187). -/
  | fetchComplete (txn : Nat) (answer : Answer)
  | channelSet (seq slot : Nat) (fields : ChannelSetFields)
  | clipLoad (seq slot : Nat) (fields : ClipLoadFields)
  | clipFree (seq slot clip : Nat)
  | bind (seq slot : Nat) (fields : BindFields)
  | unbind (seq slot channel key : Nat)
  | availAbort (seq slot channel event : Nat)
  | windowAdd (seq slot : Nat) (fields : WindowAddFields)
  | windowDrop (seq slot window : Nat)
  | groupEdit (seq slot group mode mask : Nat)
  | alertSend (seq slot : Nat) (fields : AlertSendFields)
  | alertClear (seq slot flush : Nat)
  | alertMode (seq slot mode : Nat)
  | logClose (seq slot : Nat)
  | logRestart (seq slot : Nat)
  | status (seq slot scope number dest : Nat)
  /-- A snapshot write completes (R190). -/
  | statusWriteComplete (txn : Nat) (answer : Answer)
  /-- A response entry write completes (R188). -/
  | responseEntryWriteComplete (txn : Nat) (answer : Answer)
  /-- A response-tail word write completes (R188). -/
  | responseTailWriteComplete (txn : Nat) (answer : Answer)
  /-- A verification read completes (R67). -/
  | verifyReadComplete (txn : Nat) (answer : Answer)
  /-- The open batch's timer expires (R178). -/
  | batchTimerExpiry
  /-- A log record write completes (R179, R181). -/
  | logRecordWriteComplete (txn : Nat) (answer : Answer)
  /-- A mark write completes (R179, R181). -/
  | markWriteComplete (txn : Nat) (answer : Answer)
  /-- The line, low since its latest falling edge at `fall`, has read low for 16 nominal periods (R140). -/
  | attention (fall : Nat)
  /-- The line rises at `rise` after an attention (R140). -/
  | attentionEnd (rise : Nat)
  /-- The byte that starts at the wave's falling edge, in the place of the rate mark (R141 to R143). -/
  | rateMark (wave : Wave)
  /-- The rate mark that starts at the wave's falling edge has no fourth falling edge in time (R141). -/
  | rateTimeout (wave : Wave)
  /-- The byte that starts at the wave's falling edge, in the body (R144). -/
  | bodyByte (wave : Wave)
  /-- No start edge came within the idle limit (R141, R144). -/
  | idleLimitExpiry
  /-- The active alert's duration runs out (R162). -/
  | alertExpiry
  deriving DecidableEq, Repr

end Sys2Proof
end

