-- ==== Sys2Proof/Decode.lean ====
section
/-! DEFINITION. The command a word of the opcode table spells. spec/opcode_table.json gives no row any bits: a command of the
BL3216 is an event at its ports or in its blocks, so no word spells one. -/

namespace Sys2Proof

/-- The command that the `nbits` bits of `w` spell: none, since the table gives its rows no bits. -/
def decodeTableWord (_nbits _w : Nat) : Option Instr :=
  none

end Sys2Proof
end

