-- ==== Sys2Proof/Config.lean ====
section
/-! DEFINITION. What the manual leaves open: constants without a body, so that nothing can be proved of their values. -/

namespace Sys2Proof.Config

/-- Which of several candidates of one class that were requested together is granted first (R14: "either may be
granted first"), one number for each choice the arbiter has made so far. FREE VALUE: assumption log entry 10. -/
opaque grantChoice : Nat → Nat

/-- What the DEVICE snapshot shows in byte `i` of the alert message buffer while no byte has been received there
(R151 and R191 give the buffer's contents and no filling). FREE VALUE: assumption log entry 17. -/
opaque unreceivedByte : Nat → Byte

end Sys2Proof.Config
end

