-- ==== Sys2Proof/Machine/Bytes.lean ====
section
/-! DEFINITION. Byte orders, checks (CRC-32, CRC-16, XOR) and saturating counts. -/

namespace Sys2Proof.Machine

/-- `len` items of a list from `off` on. -/
def slice {α : Type} (l : List α) (off len : Nat) : List α :=
  (l.drop off).take len

/-- A number stored least significant byte first (conventions, Byte order). -/
def leNat : List Byte → Nat
  | [] => 0
  | b :: bs => b.toNat + 256 * leNat bs

/-- A number sent most significant byte first. -/
def beNat (bs : List Byte) : Nat :=
  bs.foldl (fun a b => a * 256 + b.toNat) 0

/-- The field of `len` bytes at `off`, least significant byte first. -/
def leField (bs : List Byte) (off len : Nat) : Nat :=
  leNat (slice bs off len)

/-- The field of `len` bytes at `off`, most significant byte first. -/
def beField (bs : List Byte) (off len : Nat) : Nat :=
  beNat (slice bs off len)

/-- `len` bytes of a number, least significant byte first. -/
def leBytes : Nat → Nat → List Byte
  | 0, _ => []
  | len + 1, v => BitVec.ofNat 8 v :: leBytes len (v / 256)

/-- Apply `f` `n` times. -/
def iterate {α : Type} (f : α → α) : Nat → α → α
  | 0, x => x
  | n + 1, x => iterate f n (f x)

/-- One bit of the CRC-32 of R68 and R85: generator 04C11DB7h, not reflected. -/
def crc32Bit (c : BitVec 32) : BitVec 32 :=
  if c.msb then (c <<< 1) ^^^ 0x04C11DB7#32 else c <<< 1

/-- Fold one byte, most significant bit first. -/
def crc32Byte (c : BitVec 32) (b : Byte) : BitVec 32 :=
  iterate crc32Bit 8 (c ^^^ (b ++ (0 : BitVec 24)))

/-- Fold bytes in order into a running CRC-32 (R68). -/
def crc32Fold (c : BitVec 32) (bs : List Byte) : BitVec 32 :=
  bs.foldl crc32Byte c

/-- The CRC-32 of R85: initial value FFFFFFFFh, no final inversion. -/
def crc32 (bs : List Byte) : BitVec 32 :=
  crc32Fold 0xFFFFFFFF#32 bs

/-- One bit of the CRC-16 of R147: generator 1021h, not reflected. -/
def crc16Bit (c : BitVec 16) : BitVec 16 :=
  if c.msb then (c <<< 1) ^^^ 0x1021#16 else c <<< 1

def crc16Byte (c : BitVec 16) (b : Byte) : BitVec 16 :=
  iterate crc16Bit 8 (c ^^^ (b ++ (0 : BitVec 8)))

/-- The CRC-16 of R147: initial value FFFFh, no final inversion. -/
def crc16 (bs : List Byte) : BitVec 16 :=
  bs.foldl crc16Byte 0xFFFF#16

/-- The XOR of the 32-bit words of a record, each least significant byte first (R179). -/
def xorWords : List Byte → BitVec 32
  | a :: b :: c :: d :: rest => (d ++ c ++ b ++ a) ^^^ xorWords rest
  | _ => 0

/-- The XOR of bytes (R179). -/
def xorBytes (bs : List Byte) : Byte :=
  bs.foldl (· ^^^ ·) 0

/-- A count that stays at 65,535 once there (R7, R36, R61, R151, R155, R173). -/
def sat (n : Nat) : Nat :=
  min (n + 1) 65535

/-- The value clamped to a range (conventions, Clamping). -/
def clamp (lo hi v : Nat) : Nat :=
  max lo (min hi v)

end Sys2Proof.Machine
end

