-- ==== Sys2Proof/Machine/State.lean ====
section
/-! DEFINITION. The state of the BL3216 as plain data, its reasons to stop, and the state right after a power-on reset. -/

namespace Sys2Proof.Machine

/-! ## Reasons to stop -/

/-- The part has no fault that stops it: memory errors, refused writes and boot faults all leave a running machine
(R6, R12, R192). No meaning raises this. -/
inductive Fault where
  /-- Raised by nothing (safe: a run is never cut short by it). -/
  | none
  deriving DecidableEq, Repr

/-- Why a command has no meaning. -/
inductive Refusal where
  /-- Raised by `exec`'s arm of a command that has no meaning yet; no arm raises it now (safe). -/
  | notModelled (mnemonic : String)
  deriving DecidableEq, Repr

/-! ## The region map (R3) -/

/-- Where the part stands between a reset and normal work (R15, R192, R193). -/
inductive BootPhase where
  /-- RESET is low. -/
  | held
  /-- A boot has begun; the boot record is being read over SPI. -/
  | readingRecord
  /-- The record passed; the directive tail word and the response head word are being read. -/
  | readingWords
  /-- Transparency has ended. -/
  | running
  /-- A boot fault. -/
  | faulted
  deriving DecidableEq, Repr

/-- A ring of cells. -/
structure Ring where
  base : Nat
  cells : Nat
  deriving DecidableEq, Repr

/-- A range of addresses. -/
structure Span where
  base : Nat
  size : Nat
  deriving DecidableEq, Repr

/-- The region map: a channel without a ring has `none` (R3). -/
structure RegionMap where
  channelRings : Vector (Option Ring) 32
  feedRings : Vector Ring 6
  clipArea : Span
  logRegion : Span
  directiveBase : Nat
  responseBase : Nat
  statusArea : Span
  deriving DecidableEq, Repr

/-! ## Roles and feeds -/

/-- The function of an elementary stream. -/
inductive Role where
  | video | audio1 | audio2 | audio3 | data1 | data2
  deriving DecidableEq, Repr

/-- The role's code and its place in a role map (section 11.5). -/
def Role.idx : Role → Fin 6
  | .video => 0 | .audio1 => 1 | .audio2 => 2 | .audio3 => 3 | .data1 => 4 | .data2 => 5

/-- The PID of each role, or its absence. -/
abbrev RoleMap := Vector (Option Nat) 6

/-- A feed tracker (R33 to R36). Feeds are numbered L0-L3 0-3 and A0-A1 4-5 (section 11.5). -/
structure FeedTracker where
  roles : RoleMap
  written : Stamp
  next : Nat
  latest : Option (Stamp × Pts)
  malformed : Nat
  breaks : Nat
  deriving DecidableEq, Repr

/-! ## Channel contexts (chapter 3) -/

inductive ChannelState where
  | off | network | insert | subst | alert | returnWait
  deriving DecidableEq, Repr

/-- Treatment of an OUT cue at a full queue (R93). -/
inductive FullPolicy where
  | keep | earliest
  deriving DecidableEq, Repr

/-- The stored configuration of a channel (R38, R39). -/
structure ChannelConfig where
  roles : RoleMap
  cuePid : Option Nat
  policy : FullPolicy
  lateTolerance : Nat
  maxBreak : Nat
  returnLimit : Nat
  clockTolerance : Nat
  deriving DecidableEq, Repr

/-- Where output cells come from (R37); a feed cursor `none` waits. -/
inductive Source where
  | network
  | clip (clip : Fin 64) (next : Nat)
  | feed (feed : Fin 6) (cursor : Option Stamp)
  | none
  deriving DecidableEq, Repr

/-- How a return time was set (R101). -/
inductive ReturnKind where
  | breakEnd | cueIn
  deriving DecidableEq, Repr

/-- The current avail (section 6.1). -/
structure CurrentAvail where
  event : Nat
  avail : Nat
  splice : Pts
  ret : Option (Pts × ReturnKind)
  autoReturn : Bool
  pod : List (Fin 64)
  podIndex : Nat
  deriving DecidableEq, Repr

/-- An avail event of the queue (section 5.3). -/
structure AvailEvent where
  event : Nat
  time : Pts
  duration : Option Nat
  autoReturn : Bool
  avail : Nat
  pod : List (Fin 64)
  ret : Option Pts
  deriving DecidableEq, Repr

/-- The continuity state of one role (R58). -/
structure Continuity where
  last : Option Cc
  k : Cc
  pending : Bool
  deriving DecidableEq, Repr

/-- The counts of R61. -/
structure ChannelCounts where
  duplicates : Nat
  cueBad : Nat
  nulls : Nat
  underflows : Nat
  slips : Nat
  readErrors : Nat
  misaligned : Nat
  malformed : Nat
  deriving DecidableEq, Repr

/-- The read in hand while it waits for its source cell: the in-flight entry, its network cell, the tag of the source read
and whether it is orphaned (R44). -/
structure ReadInHand where
  entry : Nat
  cell : List Byte
  source : Nat
  orphaned : Bool
  deriving DecidableEq, Repr

/-- A read whose network fetch has completed with this answer and which has not been taken (R44). -/
structure ReadyRead where
  entry : Nat
  answer : Answer
  deriving DecidableEq, Repr

inductive ClockStatus where
  | unseen | unsteady | steady
  deriving DecidableEq, Repr

/-- The clock tracker (R30): `last` is the last total and the last stamp. -/
structure ClockTracker where
  status : ClockStatus
  last : Option (Nat × Stamp)
  settle : Nat
  deriving DecidableEq, Repr

/-- A channel context, with what the ingest monitor, the cue unit and the window table keep for the channel. -/
structure Channel where
  config : ChannelConfig
  state : ChannelState
  source : Source
  avail : Option CurrentAvail
  clipAnchor : Option Pts
  window : Option (Fin 48)
  delta : Pts
  continuity : Vector Continuity 6
  pcrMark : Bool
  outPts : Option Pts
  netPts : Option Pts
  nullCount : Nat
  inHand : Option ReadInHand
  ready : List ReadyRead
  counts : ChannelCounts
  malformedIngest : Nat
  ingestPts : Option Pts
  clock : ClockTracker
  queue : List AvailEvent
  recent : List Nat
  windows : List (Fin 48)
  deriving DecidableEq, Repr

/-! ## Clip store and bindings (chapter 4) -/

inductive ClipState where
  | free | queued | verifying | ready | failed
  deriving DecidableEq, Repr

inductive ClipFailure where
  | badCell | noEntry | timing | noClock | crcMismatch | memoryError
  deriving DecidableEq, Repr

/-- The sequence number and slot of a directive whose response is owed or due (R187). -/
structure Ticket where
  seq : Nat
  slot : Nat
  deriving DecidableEq, Repr

/-- A clip record (section 4.1). -/
structure Clip where
  state : ClipState
  base : Nat
  cells : Nat
  expectedCrc : BitVec 32
  map : List (Nat × Role)
  p0 : Option Pts
  period : Option Nat
  pMax : Option Pts
  duration : Option Nat
  firstPcr : Option Nat
  plays : Nat
  failure : Option ClipFailure
  cursor : Nat
  crc : BitVec 32
  owed : Option Ticket
  deriving DecidableEq, Repr

/-- A binding (section 4.8): key `none` is ANY; uses 0 is unlimited. -/
structure Binding where
  key : Option Nat
  uses : Nat
  pod : List (Fin 64)
  deriving DecidableEq, Repr

/-! ## Windows (chapter 7) -/

inductive WindowState where
  | scheduled | active | suspended
  deriving DecidableEq, Repr

/-- A window record; `feed` is one of L0-L3. -/
structure Window where
  channel : Fin 32
  feed : Fin 4
  start : Pts
  stop : Pts
  state : WindowState
  deriving DecidableEq, Repr

/-! ## Alert line receiver (chapter 8) -/

inductive ReceiverState where
  | waitAttention | attention | rateMark | body | standby
  deriving DecidableEq, Repr

/-- The receiver's counts (R151). -/
structure ReceiverCounts where
  noise : Nat
  rate : Nat
  framing : Nat
  truncated : Nat
  check : Nat
  field : Nat
  notOurs : Nat
  delivered : Nat
  deriving DecidableEq, Repr

/-- The alert line receiver; `idleFrom` is the house time from which the running idle limit is counted (R141, R144), and
`readingFrom` the house time at which the receiver last began reading its line (R137, R140), absent until a boot succeeds. -/
structure Receiver where
  state : ReceiverState
  period : Option Nat
  buffer : List Byte
  idleFrom : Option Nat
  counts : ReceiverCounts
  zones : List Nat
  nominal : Nat
  readingFrom : Option Nat
  deriving DecidableEq, Repr

/-! ## Alert controller (chapter 9) -/

inductive AlertSource where
  | line | host
  deriving DecidableEq, Repr

inductive AlertState where
  | active | held | queued
  deriving DecidableEq, Repr

inductive QueueMode where
  | mayEmpty | holdLast
  deriving DecidableEq, Repr

/-- An alert context (section 9.1): `feed` 0 is A0 and 1 is A1; a duration is in house ticks, `none` when open-ended. -/
structure AlertContext where
  alert : Nat
  level : Nat
  source : AlertSource
  groupMask : BitVec 8
  feed : Fin 2
  duration : Option Nat
  state : AlertState
  target : Option ChannelMask
  activated : Option Nat
  deriving DecidableEq, Repr

structure AlertControl where
  current : Option AlertContext
  queue : List AlertContext
  recent : List Nat
  groups : Vector ChannelMask 8
  mode : QueueMode
  duplicates : Nat
  deriving DecidableEq, Repr

/-! ## Log writer (chapter 10) -/

inductive LogState where
  | open | full | stopped
  deriving DecidableEq, Repr

/-- The open batch (R177). `first` is its first-record offset in 32-byte units, which names it within its run. -/
structure OpenBatch where
  first : Nat
  number : Nat
  firstSeq : Nat
  opened : Nat
  count : Nat
  check : BitVec 32
  inFlight : Nat
  deriving DecidableEq, Repr

/-- A batch of the closing list: its mark's contents and offset, its record writes in flight, and whether its mark write has
been requested (R178, R179). -/
structure ClosedBatch where
  first : Nat
  number : Nat
  firstSeq : Nat
  count : Nat
  check : BitVec 32
  mark : Nat
  inFlight : Nat
  requested : Bool
  deriving DecidableEq, Repr

/-- A LOG_CLOSE that waits for batches, named by their first-record offsets (R182). -/
structure CloseWait where
  ticket : Ticket
  batches : List Nat
  failed : Bool
  deriving DecidableEq, Repr

structure LogWriter where
  base : Nat
  size : Nat
  fo : Nat
  floor : Nat
  state : LogState
  batch : Option OpenBatch
  closing : List ClosedBatch
  batchNumber : Nat
  sequence : Nat
  withheld : Nat
  reserve : Nat
  run : Nat
  waits : List CloseWait
  deriving DecidableEq, Repr

/-! ## Directive unit (chapter 11) -/

/-- A STATUS whose snapshot is being written: the writes left, and whether one of them failed (R190). -/
structure SnapshotJob where
  job : Nat
  ticket : Ticket
  left : Nat
  failed : Bool
  deriving DecidableEq, Repr

structure DirectiveUnit where
  head : Nat
  tail : Nat
  responseHead : Nat
  responseTail : Nat
  unconsumed : Nat
  published : Nat
  owed : Nat
  ignoredTails : Nat
  ignoredHeads : Nat
  fetchErrors : Nat
  writeErrors : Nat
  /-- A fetch is outstanding (R186: one at a time). -/
  fetching : Bool
  /-- The directive handed to its owning block and not yet taken (R187). -/
  dispatched : Option Instr
  snapshots : List SnapshotJob
  deriving DecidableEq, Repr

/-! ## Path unit (chapter 1) -/

/-- How a write meets a watched word (R5). -/
inductive WordTouch where
  | none | part | whole
  deriving DecidableEq, Repr

/-- The treatment given at acceptance (R5, R10); everything clear is a pass. `eligible` names the read's channel. -/
structure Treatment where
  protectCheck : Bool
  ring : Bool
  tailWord : WordTouch
  headWord : WordTouch
  eligible : Option (Fin 32)
  deriving DecidableEq, Repr

/-- An entry of the in-flight list (R1). `id` is the tag of the downstream transaction made for it. -/
structure Entry where
  id : Nat
  write : Bool
  tag : Nat
  addr : Nat
  len : Nat
  treatment : Treatment
  deriving DecidableEq, Repr

/-- The source a source-cell read reads from. -/
inductive SourceKind where
  | clip (clip : Fin 64)
  | feed (feed : Fin 6)
  deriving DecidableEq, Repr

/-- On whose behalf a downstream transaction is made (R2). -/
inductive Owner where
  /-- The upstream transaction of the same id, sent on. -/
  | upstream
  /-- The network fetch of the eligible read of the same id (R11). -/
  | networkFetch
  | sourceRead (channel : Fin 32) (kind : SourceKind)
  | logRecord (run first : Nat)
  | logMark (run first : Nat)
  | responseEntry
  | responseTail
  | snapshot (job : Nat)
  | directiveFetch (slot : Nat)
  | bootTail
  | bootHead
  | verify (clip : Fin 64)
  /-- Issued before a reset; its response is discarded (R17). -/
  | stale
  deriving DecidableEq, Repr

/-- A downstream transaction, from its request until it completes downstream (R2, R13, R14). -/
structure Txn where
  id : Nat
  time : Nat
  cls : Nat
  write : Bool
  addr : Nat
  len : Nat
  data : List Byte
  enables : List Bool
  owner : Owner
  issued : Bool
  deriving DecidableEq, Repr

/-- The downstream transactions, the next tag and request time, and the number of free choices the arbiter has made. -/
structure Bus where
  txns : List Txn
  next : Nat
  choices : Nat
  deriving DecidableEq, Repr

/-- What a response returned upstream says (section 1.1). -/
inductive UpResult where
  | ok (data : List Byte)
  | error
  | refused
  deriving DecidableEq, Repr

structure UpResponse where
  tag : Nat
  result : UpResult
  deriving DecidableEq, Repr

/-- The boot record image: what a record that passes its tests says (section 11.6). -/
structure BootImage where
  map : RegionMap
  feedRoles : Vector RoleMap 6
  zones : List Nat
  nominal : Nat
  mode : QueueMode
  reserve : Nat
  groups : Vector ChannelMask 8
  deriving DecidableEq, Repr

/-! ## The state -/

structure State where
  /-- The commands that wait, first in first out. -/
  pending : List Instr
  boot : BootPhase
  faultLine : Bool
  image : Option BootImage
  house : Nat
  map : Option RegionMap
  entries : List Entry
  /-- The responses returned at the upstream port, oldest first (assumption log entry 11). -/
  up : List UpResponse
  refusedWrites : Nat
  bus : Bus
  channels : Vector Channel 32
  feeds : Vector FeedTracker 6
  clips : Vector Clip 64
  verifyQueue : List (Fin 64)
  /-- The tag of the verification read whose response the current pass awaits (R67). -/
  verifyRead : Option Nat
  bindings : Vector (Vector (Option Binding) 8) 32
  windows : Vector (Option Window) 48
  receiver : Receiver
  alerts : AlertControl
  log : LogWriter
  dir : DirectiveUnit
  deriving DecidableEq, Repr

/-! ## Reset values -/

/-- No role has a PID. -/
def RoleMap.absent : RoleMap := Vector.replicate 6 none

/-- The four limits at their defaults, the policy KEEP, no PIDs (R38). -/
def ChannelConfig.reset : ChannelConfig where
  roles := RoleMap.absent
  cuePid := none
  policy := .keep
  lateTolerance := 45000
  maxBreak := 21600000
  returnLimit := 4096
  clockTolerance := 270000

def Continuity.reset : Continuity where
  last := none
  k := 0
  pending := false

def ChannelCounts.zero : ChannelCounts where
  duplicates := 0
  cueBad := 0
  nulls := 0
  underflows := 0
  slips := 0
  readErrors := 0
  misaligned := 0
  malformed := 0

/-- UNSEEN (R31). The settle count of an UNSEEN tracker is 0 (DESIGN CHOICE, log entry 30: R31 says only that the last total and
stamp are absent). -/
def ClockTracker.reset : ClockTracker where
  status := .unseen
  last := none
  settle := 0

/-- A context after device reset (R38). -/
def Channel.reset : Channel where
  config := ChannelConfig.reset
  state := .off
  source := .none
  avail := none
  clipAnchor := none
  window := none
  delta := 0
  continuity := Vector.replicate 6 Continuity.reset
  pcrMark := false
  outPts := none
  netPts := none
  nullCount := 0
  inHand := none
  ready := []
  counts := ChannelCounts.zero
  malformedIngest := 0
  ingestPts := none
  clock := ClockTracker.reset
  queue := []
  recent := []
  windows := []

/-- A feed tracker after device reset (R34 to R36); its role map comes with the boot record (log entry 2). -/
def FeedTracker.reset : FeedTracker where
  roles := RoleMap.absent
  written := 0
  next := 0
  latest := none
  malformed := 0
  breaks := 0

/-- A FREE clip record (R62). -/
def Clip.reset : Clip where
  state := .free
  base := 0
  cells := 0
  expectedCrc := 0
  map := []
  p0 := none
  period := none
  pMax := none
  duration := none
  firstPcr := none
  plays := 0
  failure := none
  cursor := 0
  crc := 0
  owed := none

def ReceiverCounts.zero : ReceiverCounts where
  noise := 0
  rate := 0
  framing := 0
  truncated := 0
  check := 0
  field := 0
  notOurs := 0
  delivered := 0

/-- The receiver after a RESET arrival (R137); zone codes and nominal period come with the boot record (log entry 2). -/
def Receiver.reset : Receiver where
  state := .waitAttention
  period := none
  buffer := []
  idleFrom := none
  counts := ReceiverCounts.zero
  zones := []
  nominal := 0
  readingFrom := none

/-- The alert controller after device reset (R155). -/
def AlertControl.reset : AlertControl where
  current := none
  queue := []
  recent := []
  groups := Vector.replicate 8 0
  mode := .mayEmpty
  duplicates := 0

/-- The log writer before a boot has given it its region (R172, log entry 2). -/
def LogWriter.reset : LogWriter where
  base := 0
  size := 0
  fo := 0
  floor := 0
  state := .open
  batch := none
  closing := []
  batchNumber := 0
  sequence := 0
  withheld := 0
  reserve := 0
  run := 0
  waits := []

/-- The directive unit after a RESET arrival (R194). -/
def DirectiveUnit.reset : DirectiveUnit where
  head := 0
  tail := 0
  responseHead := 0
  responseTail := 0
  unconsumed := 0
  published := 0
  owed := 0
  ignoredTails := 0
  ignoredHeads := 0
  fetchErrors := 0
  writeErrors := 0
  fetching := false
  dispatched := none
  snapshots := []

/-- The machine right after power-on: every block in its reset state, the house counter at 0, the part transparent and a
boot begun (R17, R192, R194; log entry 1). -/
def State.reset : State where
  pending := []
  boot := .readingRecord
  faultLine := false
  image := none
  house := 0
  map := none
  entries := []
  up := []
  refusedWrites := 0
  bus := { txns := [], next := 0, choices := 0 }
  channels := Vector.replicate 32 Channel.reset
  feeds := Vector.replicate 6 FeedTracker.reset
  clips := Vector.replicate 64 Clip.reset
  verifyQueue := []
  verifyRead := none
  bindings := Vector.replicate 32 (Vector.replicate 8 none)
  windows := Vector.replicate 48 none
  receiver := Receiver.reset
  alerts := AlertControl.reset
  log := LogWriter.reset
  dir := DirectiveUnit.reset

end Sys2Proof.Machine
end

