-- ==== Sys2Proof/Machine/Cells.lean ====
section
/-! DEFINITION. The cell and its fields (section 2.1), modular time and PCR arithmetic (section 2.2), and the rewriting of fields. -/

namespace Sys2Proof.Machine

/-! ## Modular time (R24, R25) -/

/-- The forward distance from `b` to `a`: (a - b) mod 2^33 (R24). -/
def forward (a b : Pts) : Nat :=
  (a - b).toNat

/-- "`a` is at or after `b`" (R24). -/
def atOrAfter (a b : Pts) : Bool :=
  decide (forward a b < 2 ^ 32)

/-- "`a` is after `b`" (R24). -/
def isAfter (a b : Pts) : Bool :=
  decide (0 < forward a b) && decide (forward a b < 2 ^ 32)

/-- The modulus of PCR totals (R25). -/
def pcrModulus : Nat := 2576980377600

/-- The signed difference of two PCR totals (R25). -/
def pcrDifference (x y : Nat) : Int :=
  let d := (x + pcrModulus - y) % pcrModulus
  if d ≥ 1288490188800 then (d : Int) - pcrModulus else d

/-- The stamp span from `u` to a later stamp `v` (R25). -/
def stampSpan (u v : Stamp) : Nat :=
  (v - u).toNat

/-! ## Fields of a cell (R18 to R22) -/

/-- Byte `i` of a cell. -/
def cellByte (c : List Byte) (i : Nat) : Byte :=
  c.getD i 0

/-- Replace byte `i` of a cell. -/
def setByte (c : List Byte) (i : Nat) (b : Byte) : List Byte :=
  c.set i b

/-- The arrival stamp, bytes 0-3, most significant byte first. -/
def arrivalStamp (c : List Byte) : Stamp :=
  cellByte c 0 ++ cellByte c 1 ++ cellByte c 2 ++ cellByte c 3

/-- The sync byte is 47h (R19). -/
def wellFormed (c : List Byte) : Bool :=
  cellByte c 4 == 0x47#8

def payloadUnitStart (c : List Byte) : Bool :=
  (cellByte c 5).getLsbD 6

def cellPid (c : List Byte) : Nat :=
  ((cellByte c 5).extractLsb' 0 5 ++ cellByte c 6).toNat

def scrambling (c : List Byte) : BitVec 2 :=
  (cellByte c 7).extractLsb' 6 2

def adaptationControl (c : List Byte) : BitVec 2 :=
  (cellByte c 7).extractLsb' 4 2

def cellCc (c : List Byte) : Cc :=
  (cellByte c 7).extractLsb' 0 4

/-- The adaptation length, byte 8. -/
def adaptationLength (c : List Byte) : Nat :=
  (cellByte c 8).toNat

/-- The adaptation field is present and readable (R20). -/
def adaptationReadable (c : List Byte) : Bool :=
  (adaptationControl c == 2 && decide (adaptationLength c ≤ 183)) ||
    (adaptationControl c == 3 && decide (adaptationLength c ≤ 182))

/-- The flags of byte 9 are read: a readable adaptation field of at least one byte (R20). -/
def flagsRead (c : List Byte) : Bool :=
  adaptationReadable c && decide (1 ≤ adaptationLength c)

/-- The random-access flag (R20). -/
def randomAccess (c : List Byte) : Bool :=
  flagsRead c && (cellByte c 9).getLsbD 6

/-- A PCR is present (R20). -/
def pcrPresent (c : List Byte) : Bool :=
  flagsRead c && decide (7 ≤ adaptationLength c) && (cellByte c 9).getLsbD 4

/-- The PCR base of bytes 10-14. -/
def pcrBase (c : List Byte) : Pts :=
  cellByte c 10 ++ cellByte c 11 ++ cellByte c 12 ++ cellByte c 13 ++ (cellByte c 14).extractLsb' 7 1

/-- The PCR extension of bytes 14-15. -/
def pcrExtension (c : List Byte) : Nat :=
  ((cellByte c 14).extractLsb' 0 1 ++ cellByte c 15).toNat

/-- The cell carries a readable PCR (R19, R20). -/
def pcrReadable (c : List Byte) : Bool :=
  wellFormed c && pcrPresent c && decide (pcrExtension c ≤ 299)

/-- The total of a readable PCR: base × 300 + extension (R25). -/
def readPcr (c : List Byte) : Option Nat :=
  if pcrReadable c then some ((pcrBase c).toNat * 300 + pcrExtension c) else none

/-- Where the payload begins, when it is present (R20, R21). -/
def payloadStart (c : List Byte) : Option Nat :=
  if adaptationControl c == 1 then some 8
  else if adaptationControl c == 3 && adaptationReadable c then some (9 + adaptationLength c)
  else none

/-- The 33-bit timestamp coded in the five bytes at `i` (R21). -/
def timestampAt (c : List Byte) (i : Nat) : Pts :=
  (cellByte c i).extractLsb' 1 3 ++ cellByte c (i + 1) ++ (cellByte c (i + 2)).extractLsb' 1 7 ++ cellByte c (i + 3) ++
    (cellByte c (i + 4)).extractLsb' 1 7

/-- Where the payload begins in a cell with a readable PTS (R21). -/
def ptsPayload (c : List Byte) : Option Nat :=
  match payloadStart c with
  | none => none
  | some p =>
    if wellFormed c && payloadUnitStart c && scrambling c == 0 && cellByte c p == 0 && cellByte c (p + 1) == 0 &&
        cellByte c (p + 2) == 1 && (cellByte c (p + 7)).getLsbD 7 && decide (5 ≤ (cellByte c (p + 8)).toNat) &&
        decide (p ≤ 178)
    then some p
    else none

/-- Where the payload begins in a cell with a readable DTS (R21). -/
def dtsPayload (c : List Byte) : Option Nat :=
  match ptsPayload c with
  | none => none
  | some p =>
    if (cellByte c (p + 7)).getLsbD 6 && decide (10 ≤ (cellByte c (p + 8)).toNat) && decide (p + 18 ≤ 191) then some p
    else none

/-- The readable PTS of a cell (R21). -/
def readPts (c : List Byte) : Option Pts :=
  (ptsPayload c).map fun p => timestampAt c (p + 9)

/-- The readable DTS of a cell (R21). -/
def readDts (c : List Byte) : Option Pts :=
  (dtsPayload c).map fun p => timestampAt c (p + 14)

/-- The entry PTS of a cell that is an entry cell of a source with this VIDEO PID (R22). -/
def entryPts (video : Option Nat) (c : List Byte) : Option Pts :=
  if wellFormed c && video == some (cellPid c) && payloadUnitStart c && randomAccess c then readPts c else none

/-- A payload-bearing cell (R58). -/
def payloadBearing (c : List Byte) : Bool :=
  wellFormed c && (payloadStart c).isSome

/-! ## Rewriting (R55, R57 to R60, R23) -/

/-- Write a timestamp into the five bytes at `i`, carrying the marker bits (R21). -/
def setTimestamp (c : List Byte) (i : Nat) (v : Pts) : List Byte :=
  let b0 := cellByte c i
  let b2 := cellByte c (i + 2)
  let b4 := cellByte c (i + 4)
  let c := setByte c i (b0.extractLsb' 4 4 ++ v.extractLsb' 30 3 ++ b0.extractLsb' 0 1)
  let c := setByte c (i + 1) (v.extractLsb' 22 8)
  let c := setByte c (i + 2) (v.extractLsb' 15 7 ++ b2.extractLsb' 0 1)
  let c := setByte c (i + 3) (v.extractLsb' 7 8)
  setByte c (i + 4) (v.extractLsb' 0 7 ++ b4.extractLsb' 0 1)

/-- Write a PCR base into bytes 10-14, carrying byte 14's other bits (R55: the extension is unchanged). -/
def setPcrBase (c : List Byte) (v : Pts) : List Byte :=
  let b14 := cellByte c 14
  let c := setByte c 10 (v.extractLsb' 25 8)
  let c := setByte c 11 (v.extractLsb' 17 8)
  let c := setByte c 12 (v.extractLsb' 9 8)
  let c := setByte c 13 (v.extractLsb' 1 8)
  setByte c 14 (v.extractLsb' 0 1 ++ b14.extractLsb' 0 7)

/-- The PTS and the DTS of a cell moved by `d` where they are readable (R55). -/
def rebaseStamps (c : List Byte) (d : Pts) : List Byte :=
  match ptsPayload c with
  | none => c
  | some p =>
    let c' := setTimestamp c (p + 9) (timestampAt c (p + 9) + d)
    if (dtsPayload c).isSome then setTimestamp c' (p + 14) (timestampAt c (p + 14) + d) else c'

/-- Every timestamp of a source cell moved by the rebase offset `d` (R55). A readable PCR with total T becomes
(T + 300 d) mod 2^33 × 300, that is, its base moves by `d` and its extension stays. -/
def rebase (c : List Byte) (d : Pts) : List Byte :=
  let c' := rebaseStamps c d
  if pcrReadable c then setPcrBase c' (pcrBase c + d) else c'

/-- Replace the PID, leaving the other bits of bytes 5 and 6 (R57). -/
def setPid (c : List Byte) (pid : Nat) : List Byte :=
  let v := BitVec.ofNat 13 pid
  setByte (setByte c 5 ((cellByte c 5).extractLsb' 5 3 ++ v.extractLsb' 8 5)) 6 (v.extractLsb' 0 8)

/-- Replace the continuity counter. -/
def setCc (c : List Byte) (v : Cc) : List Byte :=
  setByte c 7 ((cellByte c 7).extractLsb' 4 4 ++ v)

/-- Set the discontinuity flag (R60). -/
def setDiscontinuity (c : List Byte) : List Byte :=
  setByte c 9 (cellByte c 9 ||| 0x80#8)

/-- Bytes 0-3 of an output cell are the arrival stamp of the read's network cell (R49). -/
def withStamp (c network : List Byte) : List Byte :=
  network.take 4 ++ c.drop 4

/-- The null cell emitted in place of a cell that cannot be supplied (R23). -/
def nullCell (network : List Byte) : List Byte :=
  network.take 4 ++ [0x47#8, 0x1F#8, 0xFF#8, 0x10#8] ++ List.replicate 184 0xFF#8

/-- The role of a PID in a role map. -/
def roleOfPid (m : RoleMap) (pid : Nat) : Option Role :=
  [Role.video, .audio1, .audio2, .audio3, .data1, .data2].find? fun r => m[r.idx] == some pid

end Sys2Proof.Machine
end

