-- ==== Sys2Proof/Machine/Ops.lean ====
section
/-! DEFINITION. The named operations every block uses: reading and updating one channel, clip, feed or window, requesting a
downstream transaction, answering upstream, and handing a response to the response side. -/

namespace Sys2Proof.Machine

/-! ## One place for each indexed piece of state -/

/-- Channel `c`'s context. -/
def State.chan (s : State) (c : Fin 32) : Channel :=
  s.channels[c]

/-- Change channel `c`'s context. -/
def State.mapChan (s : State) (c : Fin 32) (f : Channel → Channel) : State :=
  { s with channels := s.channels.set c (f s.channels[c]) }

/-- Clip `n`'s record. -/
def State.clip (s : State) (n : Fin 64) : Clip :=
  s.clips[n]

/-- Change clip `n`'s record. -/
def State.mapClip (s : State) (n : Fin 64) (f : Clip → Clip) : State :=
  { s with clips := s.clips.set n (f s.clips[n]) }

/-- Feed `f`'s tracker. -/
def State.feed (s : State) (f : Fin 6) : FeedTracker :=
  s.feeds[f]

/-- Change feed `f`'s tracker. -/
def State.mapFeed (s : State) (f : Fin 6) (g : FeedTracker → FeedTracker) : State :=
  { s with feeds := s.feeds.set f (g s.feeds[f]) }

/-- Window record `w`. -/
def State.window (s : State) (w : Fin 48) : Option Window :=
  s.windows[w]

/-- Fill or empty window record `w`. -/
def State.setWindow (s : State) (w : Fin 48) (x : Option Window) : State :=
  { s with windows := s.windows.set w x }

/-- Channel `c`'s binding table. -/
def State.bindingTable (s : State) (c : Fin 32) : Vector (Option Binding) 8 :=
  s.bindings[c]

/-- Replace channel `c`'s binding table. -/
def State.setBindings (s : State) (c : Fin 32) (t : Vector (Option Binding) 8) : State :=
  { s with bindings := s.bindings.set c t }

/-- The ring of a feed in the region map; no ring while the map is empty (R3). -/
def State.feedRing (s : State) (f : Fin 6) : Ring :=
  match s.map with
  | some m => m.feedRings[f]
  | none => ⟨0, 0⟩

/-- The ring of a channel in the region map (R3). -/
def State.channelRing (s : State) (c : Fin 32) : Option Ring :=
  match s.map with
  | some m => m.channelRings[c]
  | none => none

/-- The channel is enabled: in any state other than OFF (R37). -/
def Channel.enabled (ch : Channel) : Bool :=
  ch.state != .off

/-- The channel's PID for a role. -/
def Channel.pidOf (ch : Channel) (r : Role) : Option Nat :=
  ch.config.roles[r.idx]

/-- Bring the house counter up to the moment `t` of an event that happens at `t` (log entry 4). -/
def State.atTime (s : State) (t : Nat) : State :=
  { s with house := max s.house t }

/-- A number that joins a list of recent ids: it takes the newest place, and past `cap` the oldest leaves (R96, R154). -/
def joinRecent (cap : Nat) (l : List Nat) (x : Nat) : List Nat :=
  let l' := l.filter (· != x) ++ [x]
  l'.drop (l'.length - cap)

/-! ## Downstream transactions (R2, R13, R14) -/

/-- Ask the arbiter for a transaction; its request time is this moment (R13). -/
def Bus.request (b : Bus) (cls : Nat) (write : Bool) (addr len : Nat) (data : List Byte) (enables : List Bool)
    (owner : Owner) : Bus :=
  { b with
    txns := b.txns ++ [⟨b.next, b.next, cls, write, addr, len, data, enables, owner, false⟩]
    next := b.next + 1 }

/-- Ask for a read of the part's own. -/
def Bus.read (b : Bus) (cls addr len : Nat) (owner : Owner) : Bus :=
  b.request cls false addr len [] [] owner

/-- Ask for a write of the part's own, every byte enabled; the part's writes are class 2 (R14). -/
def Bus.write (b : Bus) (addr : Nat) (data : List Byte) (owner : Owner) : Bus :=
  b.request 2 true addr data.length data (List.replicate data.length true) owner

/-- A transaction that has completed downstream leaves the list. -/
def Bus.complete (b : Bus) (id : Nat) : Bus :=
  { b with txns := b.txns.filter fun t => t.id != id }

/-- The issued transaction a response is routed to by its tag (R2). -/
def Bus.issuedTxn (b : Bus) (id : Nat) : Option Txn :=
  b.txns.find? fun t => t.id == id && t.issued

/-- The transaction completes downstream. -/
def State.completeTxn (s : State) (id : Nat) : State :=
  { s with bus := s.bus.complete id }

/-- A response of memory: when the tag names an issued transaction, `f` handles it, and completes the transaction when it is one of its own. A stale
transaction's response is discarded (R17). A tag that names no issued transaction changes nothing (log entry 6). -/
def State.onResponse (s : State) (id : Nat) (f : Txn → State → State) : State :=
  match s.bus.issuedTxn id with
  | none => s
  | some t => if t.owner = .stale then s.completeTxn id else f t s

/-! ## Responses upstream (R1) -/

/-- Return an entry's response upstream and free the entry (R1). -/
def State.answer (s : State) (id : Nat) (r : UpResult) : State :=
  match s.entries.find? fun e => e.id == id with
  | none => s
  | some e =>
    { s with
      up := s.up ++ [⟨e.tag, r⟩]
      entries := s.entries.filter fun e => e.id != id }

/-- What an answer of memory looks like upstream (R12). -/
def UpResult.ofAnswer : Answer → UpResult
  | .ok d => .ok d
  | .error => .error

/-! ## The response side (R188) -/

/-- The outcomes of a directive (section 11.1). -/
inductive DirectiveResult where
  | done | refusedRange | refusedState | refusedInUse | refusedFull | cancelled | failed | unknownKind | fetchError
  deriving DecidableEq, Repr

def DirectiveResult.code : DirectiveResult → Nat
  | .done => 0 | .refusedRange => 1 | .refusedState => 2 | .refusedInUse => 3 | .refusedFull => 4
  | .cancelled => 5 | .failed => 6 | .unknownKind => 7 | .fetchError => 8

/-- The 16 bytes of a response entry (section 11.1). -/
def responseBytes (seq kind : Nat) (r : DirectiveResult) (detail slot house : Nat) : List Byte :=
  leBytes 2 seq ++ leBytes 1 kind ++ leBytes 1 r.code ++ leBytes 1 detail ++ leBytes 1 slot ++ leBytes 2 0 ++
    leBytes 4 house ++ leBytes 4 0

/-- The response ring's base. -/
def State.responseBase (s : State) : Nat :=
  match s.map with
  | some m => m.responseBase
  | none => 0

/-- Steps 1 and 2 of R188: U rises, the entry write is requested at the slot of the response tail, the tail moves on. -/
def State.putResponse (s : State) (seq kind : Nat) (r : DirectiveResult) (detail slot : Nat) : State :=
  { s with
    dir := { s.dir with
      unconsumed := s.dir.unconsumed + 1
      responseTail := (s.dir.responseTail + 1) % 64 }
    bus := s.bus.write (s.responseBase + 16 * s.dir.responseTail) (responseBytes seq kind r detail slot s.house)
      .responseEntry }

/-- Hand a response to the response side for a directive counted in Q (R188). -/
def State.respond (s : State) (seq kind : Nat) (r : DirectiveResult) (detail slot : Nat) : State :=
  { s with dir := { s.dir with owed := s.dir.owed - 1 } }.putResponse seq kind r detail slot

/-- The owning block takes the directive that FETCH_COMPLETE handed to it (R187). A command that is not the directive in hand
is no event of the part and changes nothing (log entries 6 and 8). -/
def State.takeDirective (s : State) (c : Instr) (f : State → State) : State :=
  if s.dir.dispatched = some c then f { s with dir := { s.dir with dispatched := none } } else s

end Sys2Proof.Machine
end

