-- ==== Sys2Proof/Machine/LogWriter.lean ====
section
/-! DEFINITION. The as-run log (chapter 10): records, batches and marks, FULL and STOPPED, LOG_CLOSE, LOG_RESTART, the batch
timer, and the completions of the log's writes. -/

namespace Sys2Proof.Machine

/-! ## Records (section 10.2) -/

inductive RecordKind where
  | availStart | availEnd | clipStart | clipEnd | eventMissed | cueUnbound | cueLost | windowStart | windowEnd | alertStart
  | alertEnd | alertMessageBad | clipReady | clipFailed | feedSlip | clockUnsteady | clockSteady | writeRefused
  | returnForced | logRestarted
  deriving DecidableEq, Repr

def RecordKind.code : RecordKind → Nat
  | .availStart => 1 | .availEnd => 2 | .clipStart => 3 | .clipEnd => 4 | .eventMissed => 5 | .cueUnbound => 6
  | .cueLost => 7 | .windowStart => 8 | .windowEnd => 9 | .alertStart => 10 | .alertEnd => 11 | .alertMessageBad => 12
  | .clipReady => 13 | .clipFailed => 14 | .feedSlip => 15 | .clockUnsteady => 16 | .clockSteady => 17
  | .writeRefused => 18 | .returnForced => 19 | .logRestarted => 20

/-- What a block hands to the log writer: `channel` 255 is a device record, `reason` 0 is none (R173, R174). -/
structure Record where
  kind : RecordKind
  channel : Nat
  reason : Nat
  subject : Nat
  first : Nat
  second : Nat
  deriving DecidableEq, Repr

/-- The 32 bytes of a record (section 10.2); the high bits of its two 33-bit values share byte 3. -/
def Record.bytes (r : Record) (house sequence batch position : Nat) : List Byte :=
  leBytes 1 r.kind.code ++ leBytes 1 r.channel ++ leBytes 1 r.reason ++
    leBytes 1 (r.first / 2 ^ 32 % 2 + 2 * (r.second / 2 ^ 32 % 2)) ++ leBytes 8 house ++ leBytes 4 r.subject ++
    leBytes 4 r.first ++ leBytes 4 r.second ++ leBytes 4 sequence ++ leBytes 2 batch ++ leBytes 1 position ++ leBytes 1 0

/-- The room of the log: the records it can still take while leaving space for one mark (R177). -/
def LogWriter.room (l : LogWriter) : Nat :=
  (l.floor - l.fo - 16) / 32

/-- A record fits while 32 bytes of record and 16 of mark find place below the floor (R176). -/
def LogWriter.fits (l : LogWriter) : Bool :=
  decide (l.fo + 32 + 16 ≤ l.floor)

/-- Drop a record (R173). -/
def LogWriter.withhold (l : LogWriter) : LogWriter :=
  { l with withheld := sat l.withheld }

/-! ## Batches and marks (section 10.3) -/

/-- The fifteen bytes of a mark other than its check byte, the check byte's place left out (section 10.3). -/
def ClosedBatch.markRest (b : ClosedBatch) : List Byte :=
  leBytes 1 b.count ++ leBytes 2 b.number ++ leBytes 2 b.firstSeq ++ leBytes 4 b.first ++ leBytes 4 b.check.toNat

/-- The 16 bytes of a mark; the check byte makes them XOR to 00h (R179). -/
def ClosedBatch.markBytes (b : ClosedBatch) : List Byte :=
  [0x5B#8, 0x4C#8, xorBytes (0x5B#8 :: 0x4C#8 :: b.markRest)] ++ b.markRest

/-- Ask for the write of a batch's mark once every record write of the batch has completed (R179). -/
def LogWriter.requestMark (l : LogWriter) (bus : Bus) (b : ClosedBatch) : Bus :=
  if b.inFlight = 0 then bus.write (l.base + b.mark) b.markBytes (.logMark l.run b.first) else bus

/-- The open batch closes (R178): M falls by 16, the batch joins the tail of the closing list with its mark's contents
complete, and its mark is requested at once when no record write of it is in flight. -/
def LogWriter.close (l : LogWriter) (bus : Bus) : LogWriter × Bus :=
  match l.batch with
  | none => (l, bus)
  | some b =>
    let c : ClosedBatch := ⟨b.first, b.number, b.firstSeq, b.count, b.check, l.floor - 16, b.inFlight, b.inFlight == 0⟩
    ({ l with floor := l.floor - 16, batch := none, closing := l.closing ++ [c] }, l.requestMark bus c)

/-- The open batch, or the batch that a record opens (R177). -/
def LogWriter.openFor (l : LogWriter) (house : Nat) : OpenBatch :=
  match l.batch with
  | some b => b
  | none => ⟨l.fo / 32, l.batchNumber, l.sequence, house, 0, 0, 0⟩

/-- A record that fits is written (R176). -/
def LogWriter.append (l : LogWriter) (bus : Bus) (house : Nat) (r : Record) : LogWriter × Bus :=
  let b := l.openFor house
  let bytes := r.bytes house l.sequence b.number b.count
  let b' : OpenBatch := { b with count := b.count + 1, check := b.check ^^^ xorWords bytes, inFlight := b.inFlight + 1 }
  let l' : LogWriter := { l with
    batch := some b'
    batchNumber := if l.batch.isSome then l.batchNumber else (l.batchNumber + 1) % 65536
    fo := l.fo + 32
    sequence := (l.sequence + 1) % 2 ^ 32 }
  let bus' := bus.write (l.base + l.fo) bytes (.logRecord l.run b.first)
  if b'.count = 16 then l'.close bus' else (l', bus')

/-- A record handed to the log writer (R173, R176, R180). -/
def LogWriter.take (l : LogWriter) (bus : Bus) (house : Nat) (r : Record) : LogWriter × Bus :=
  match l.state with
  | .open =>
    if l.fits then l.append bus house r
    else
      let c := l.withhold.close bus
      ({ c.1 with state := .full }, c.2)
  | .full => (l.withhold, bus)
  | .stopped => (l.withhold, bus)

/-- Hand a record to the log writer, which takes none while the part is transparent (R172, R173, R175). -/
def State.record (s : State) (r : Record) : State :=
  let c := if s.boot = .running then s.log.take s.bus s.house r else (s.log, s.bus)
  { s with log := c.1, bus := c.2 }

/-! ## LOG_CLOSE directives that wait (R182) -/

/-- A batch has left the closing list, marked or abandoned: strike it from every waiting LOG_CLOSE. -/
def CloseWait.strike (failed : Bool) (batch : Nat) (w : CloseWait) : CloseWait :=
  if batch ∈ w.batches then { w with batches := w.batches.filter (· != batch), failed := w.failed || failed } else w

/-- Answer the LOG_CLOSE directives that wait for nothing more (R182), several of them in the order in which they were taken: neither
R182 nor R188 gives an order (DESIGN CHOICE, log entry 34). -/
def State.answerCloses (s : State) : State :=
  let ready := s.log.waits.filter fun w => w.batches.isEmpty
  let s := { s with log := { s.log with waits := s.log.waits.filter fun w => !w.batches.isEmpty } }
  ready.foldl (fun s w =>
    if w.failed then s.respond w.ticket.seq 13 .failed 1 w.ticket.slot else s.respond w.ticket.seq 13 .done 0 w.ticket.slot) s

/-- Batches have been marked (`failed` clear) or abandoned (`failed` set). -/
def State.settleBatches (s : State) (failed : Bool) (batches : List Nat) : State :=
  let waits := s.log.waits.map fun w => batches.foldl (fun w b => w.strike failed b) w
  { s with log := { s.log with waits := waits } }.answerCloses

/-! ## Completions of log writes (R179, R181) -/

/-- A record write of batch `first` has completed OK. -/
def LogWriter.recordDone (l : LogWriter) (first : Nat) : LogWriter :=
  { l with
    batch := l.batch.map fun b => if b.first = first then { b with inFlight := b.inFlight - 1 } else b
    closing := l.closing.map fun b =>
      if b.first = first then { b with inFlight := b.inFlight - 1, requested := b.requested || b.inFlight == 1 } else b }

/-- A record write of the current run has completed OK: when it was the last of a closed batch, the mark is requested
(R179). -/
def State.logRecordOk (s : State) (first : Nat) : State :=
  let l := s.log.recordDone first
  let bus := match s.log.closing.find? fun b => b.first == first && !b.requested with
    | some b => s.log.requestMark s.bus { b with inFlight := b.inFlight - 1 }
    | none => s.bus
  { s with log := l, bus := bus }

/-- The log stops at an ERROR on a write of batch `first` (R181): the open batch, every closed batch whose mark write has not
been requested, and the batch concerned are abandoned without a mark. -/
def State.stopLog (s : State) (first : Nat) : State :=
  let gone := s.log.closing.filter fun b => !b.requested || b.first == first
  let kept := s.log.closing.filter fun b => !(!b.requested || b.first == first)
  { s with log := { s.log with batch := none, closing := kept, state := .stopped } }.settleBatches true (gone.map ClosedBatch.first)

/-- A record write is answered (R179, R181). A write of an earlier run has no effect on the log, and neither has an ERROR
once the log is STOPPED. -/
def State.logRecordAnswered (s : State) (run first : Nat) (a : Answer) : State :=
  if run ≠ s.log.run then s
  else match a with
    | .ok _ => s.logRecordOk first
    | .error =>
      if s.log.state = .stopped then s
      else { s with log := s.log.withhold }.stopLog first

/-- A mark write is answered (R179, R181). -/
def State.logMarkAnswered (s : State) (run first : Nat) (a : Answer) : State :=
  if run ≠ s.log.run then s
  else if !(s.log.closing.any fun b => b.first == first) then s
  else
    let dropped := { s with log := { s.log with closing := s.log.closing.filter fun b => b.first != first } }
    match a with
    | .ok _ => dropped.settleBatches false [first]
    | .error => if s.log.state = .stopped then dropped.settleBatches true [first] else s.stopLog first

/-! ## The commands -/

/-- LOG_RECORD_WRITE_COMPLETE (R179, R181). -/
def execLogRecordWriteComplete (txn : Nat) (answer : Answer) (s : State) : Host.Outcome State Fault Refusal :=
  .next (s.onResponse txn fun t s =>
    match t.owner with
    | .logRecord run first => (s.completeTxn txn).logRecordAnswered run first answer
    | _ => s)

/-- MARK_WRITE_COMPLETE (R179, R181, R182). -/
def execMarkWriteComplete (txn : Nat) (answer : Answer) (s : State) : Host.Outcome State Fault Refusal :=
  .next (s.onResponse txn fun t s =>
    match t.owner with
    | .logMark run first => (s.completeTxn txn).logMarkAnswered run first answer
    | _ => s)

/-- The open batch closes (R178), as LOG_CLOSE and the batch timer do it. -/
def State.closeBatch (s : State) : State :=
  let c := s.log.close s.bus
  { s with log := c.1, bus := c.2 }

/-- BATCH_TIMER_EXPIRY: the house counter reaches the open batch's opening time plus 27,000,000, and the batch closes (R178).
A log with no open batch runs no timer. -/
def execBatchTimerExpiry (s : State) : Host.Outcome State Fault Refusal :=
  .next (match s.log.batch with
    | none => s
    | some b => (s.atTime (b.opened + 27000000)).closeBatch)

/-- LOG_CLOSE (R182). -/
def State.logClose (s : State) (t : Ticket) : State :=
  let s := s.closeBatch
  if s.log.closing.isEmpty then s.respond t.seq 13 .done 0 t.slot
  else { s with log := { s.log with waits := s.log.waits ++ [⟨t, s.log.closing.map ClosedBatch.first, false⟩] } }

def execLogClose (seq slot : Nat) (s : State) : Host.Outcome State Fault Refusal :=
  .next (s.takeDirective (.logClose seq slot) fun s => s.logClose ⟨seq, slot⟩)

/-- The codes of the log's state (R183, section 11.5). -/
def LogState.code : LogState → Nat
  | .open => 1 | .full => 2 | .stopped => 3

/-- Steps 1 to 3 of R183: the batches are dropped, a new run begins, and the offsets and numbers start again. -/
def LogWriter.restart (l : LogWriter) : LogWriter :=
  { l with
    fo := 0
    floor := l.size
    state := .open
    batch := none
    closing := []
    batchNumber := 0
    sequence := 0
    run := l.run + 1
    waits := [] }

/-- LOG_RESTART (R183). The waiting LOG_CLOSE directives are answered CANCELLED in the order they were taken (DESIGN CHOICE, log
entry 34). -/
def State.logRestart (s : State) (t : Ticket) : State :=
  let waits := s.log.waits
  let r : Record := ⟨.logRestarted, 255, s.log.state.code, 0, s.log.withheld, s.log.sequence⟩
  let s := { s with log := s.log.restart }
  let s := waits.foldl (fun s w => s.respond w.ticket.seq 13 .cancelled 0 w.ticket.slot) s
  let s := s.record r
  let s := { s with log := { s.log with withheld := 0 } }
  s.respond t.seq 14 .done 0 t.slot

def execLogRestart (seq slot : Nat) (s : State) : Host.Outcome State Fault Refusal :=
  .next (s.takeDirective (.logRestart seq slot) fun s => s.logRestart ⟨seq, slot⟩)

end Sys2Proof.Machine
end

