-- ==== Sys2Proof/Machine/Switching.lean ====
section
/-! DEFINITION. Changes of a channel's source (sections 3.4 and 3.5), and the shared ends and starts of clips, avails and
windows (chapters 6 and 7). -/

namespace Sys2Proof.Machine

/-! ## Sources and switches (R44, R53, R54) -/

/-- A read in hand that waits for a source cell is orphaned (R44). -/
def Channel.orphan (ch : Channel) : Channel :=
  { ch with inHand := ch.inHand.map fun r => { r with orphaned := true } }

/-- Change the source, which orphans the read in hand (R44). -/
def Channel.setSource (ch : Channel) (src : Source) : Channel :=
  { ch.orphan with source := src }

/-- A switch: the source and the rebase offset are set, every role's CC pending flag and PCR-mark pending are set (R53). -/
def Channel.switchTo (ch : Channel) (src : Source) (delta : Pts) : Channel :=
  { ch.setSource src with
    delta := delta
    continuity := ch.continuity.map fun r => { r with pending := true }
    pcrMark := true }

/-- Return to NETWORK with Δ 0 (R53, R54). -/
def Channel.toNetwork (ch : Channel) : Channel :=
  { ch.switchTo .network 0 with state := .network }

/-- Enter RETURN_WAIT: source NONE, null count 0 (R48). -/
def Channel.toReturnWait (ch : Channel) : Channel :=
  { ch.setSource .none with state := .returnWait, nullCount := 0 }

/-- What a cursor is anchored on (R54): the entry PTS of the network cell at hand, or immediately. -/
inductive Anchor where
  | cell (n : Pts)
  | immediate
  deriving DecidableEq, Repr

/-- The P_anchor of a cursor placed on a feed entry with PTS `a`: O, or A when O is absent, for an immediate anchor (R54). -/
def Channel.anchorPts (ch : Channel) (anchor : Anchor) (a : Pts) : Pts :=
  match anchor with
  | .cell n => n
  | .immediate => ch.outPts.getD a

/-- Place the cursor on a feed: on its latest entry with a switch, or waiting when the feed has none (R52). -/
def Channel.place (ch : Channel) (feed : Fin 6) (latest : Option (Stamp × Pts)) (anchor : Anchor) : Channel :=
  match latest with
  | none => ch.setSource (.feed feed none)
  | some (e, a) => ch.switchTo (.feed feed (some e)) (ch.anchorPts anchor a - a)

/-- Place channel `c`'s cursor on a feed (R52). -/
def State.placeCursor (s : State) (c : Fin 32) (feed : Fin 6) (anchor : Anchor) : State :=
  s.mapChan c fun ch => ch.place feed (s.feed feed).latest anchor

/-- The cursor of the channel stands on a feed and does not wait. -/
def Channel.placed (ch : Channel) : Bool :=
  match ch.source with
  | .feed _ (some _) => true
  | _ => false

/-! ## Clips and avails (sections 6.3 to 6.6) -/

inductive ClipEndReason where
  | complete | cut | memoryError
  deriving DecidableEq, Repr

def ClipEndReason.code : ClipEndReason → Nat
  | .complete => 1 | .cut => 2 | .memoryError => 3

inductive AvailEndReason where
  | complete | short | breakEnd | cueIn | timeout | aborted | memoryError | alert | disabled
  deriving DecidableEq, Repr

def AvailEndReason.code : AvailEndReason → Nat
  | .complete => 1 | .short => 2 | .breakEnd => 3 | .cueIn => 4 | .timeout => 5 | .aborted => 6 | .memoryError => 7
  | .alert => 8 | .disabled => 9

/-- The clip now playing is left: CLIP_END is handed over and its play count falls by 1 (R77, R114). -/
def State.leaveClip (s : State) (c : Fin 32) (why : ClipEndReason) : State :=
  match (s.chan c).source with
  | .clip n i =>
    (s.record ⟨.clipEnd, c, why.code, n, i, (s.clip n).cells⟩).mapClip n fun x => { x with plays := x.plays - 1 }
  | _ => s

/-- The current avail ends: AVAIL_END is handed over, its event id joins the recent event ids, and the avail and the clip
anchor are removed (R111, R113, R114, R115). -/
def State.endAvail (s : State) (c : Fin 32) (why : AvailEndReason) (endPoint : Pts) : State :=
  match (s.chan c).avail with
  | none => s
  | some a =>
    let span := if endPoint = 0 then 0 else forward endPoint a.splice
    (s.record ⟨.availEnd, c, why.code, a.event, endPoint.toNat, span⟩).mapChan c fun ch =>
      { ch with avail := none, clipAnchor := none, recent := joinRecent 4 ch.recent a.event }

/-- The end point of an avail that ends other than at a network entry cell: O, or 0 when O is absent (R114). -/
def Channel.endPoint (ch : Channel) : Pts :=
  ch.outPts.getD 0

/-- Steps 1 to 3 of abandonment (R115); the caller takes the channel out of INSERT. -/
def State.abandon (s : State) (c : Fin 32) (clipWhy : ClipEndReason) (why : AvailEndReason) : State :=
  (s.leaveClip c clipWhy).endAvail c why (s.chan c).endPoint

/-- A clip of the pod starts on anchor `p`: its play count rises by 1 and a switch to its cell 0 is made (R54, R77, R107,
R110). -/
def State.startClip (s : State) (c : Fin 32) (n : Fin 64) (p : Pts) : State :=
  (s.mapClip n fun x => { x with plays := x.plays + 1 }).mapChan c fun ch =>
    { ch.switchTo (.clip n 0) (p - (s.clip n).p0.getD 0) with clipAnchor := some p }

/-- The CLIP_START of the clip just started (R108). -/
def State.recordClipStart (s : State) (c : Fin 32) (n : Fin 64) (p : Pts) : State :=
  s.record ⟨.clipStart, c, 0, n, p.toNat, (s.chan c).delta.toNat⟩

/-! ## Retiring queued events (R103) -/

inductive MissReason where
  | late | unsteady | logFull | overlap | suppressed | alert | cancelled | disabled
  deriving DecidableEq, Repr

def MissReason.code : MissReason → Nat
  | .late => 1 | .unsteady => 2 | .logFull => 3 | .overlap => 4 | .suppressed => 5 | .alert => 6 | .cancelled => 7
  | .disabled => 8

/-- Retire a queued event (R103): it leaves the queue, EVENT_MISSED is handed over with the given second value, and its id
joins the recent event ids. -/
def State.retire (s : State) (c : Fin 32) (e : AvailEvent) (why : MissReason) (second : Nat) : State :=
  let s := s.mapChan c fun ch => { ch with queue := ch.queue.eraseP fun x => x.event == e.event }
  let s := s.record ⟨.eventMissed, c, why.code, e.event, e.time.toNat, second⟩
  s.mapChan c fun ch => { ch with recent := joinRecent 4 ch.recent e.event }

/-- An event is due at N, with its lateness (R102). -/
def AvailEvent.due (e : AvailEvent) (n : Pts) : Bool :=
  atOrAfter n e.time

def AvailEvent.lateness (e : AvailEvent) (n : Pts) : Nat :=
  forward n e.time

/-- While the queue head is due at N and more than `slack` late (when given), it is retired (R106). The count bounds the
number of retirements by the queue's length. -/
def State.retireDue (c : Fin 32) (n : Pts) (why : MissReason) (slack : Option Nat) : Nat → State → State
  | 0, s => s
  | k + 1, s =>
    match (s.chan c).queue with
    | [] => s
    | e :: _ =>
      if e.due n && (slack.all fun t => decide (t < e.lateness n)) then
        State.retireDue c n why slack k (s.retire c e why (e.lateness n))
      else s

/-- Every head that is due at N is retired, for SUBST and ALERT (R106). -/
def State.retireAllDue (s : State) (c : Fin 32) (n : Pts) (why : MissReason) : State :=
  State.retireDue c n why none (s.chan c).queue.length s

/-- The OVERLAP test of a channel in INSERT (R46, R106). -/
def State.overlapTest (s : State) (c : Fin 32) (n : Pts) : State :=
  State.retireDue c n .overlap (some (s.chan c).config.lateTolerance) (s.chan c).queue.length s

/-! ## Windows (section 7.3) -/

inductive WindowStartReason where
  | started | startedWaiting | resumed | resumedWaiting
  deriving DecidableEq, Repr

def WindowStartReason.code : WindowStartReason → Nat
  | .started => 1 | .startedWaiting => 2 | .resumed => 3 | .resumedWaiting => 4

inductive WindowEndReason where
  | ended | lapsed | dropped | disabled
  deriving DecidableEq, Repr

def WindowEndReason.code : WindowEndReason → Nat
  | .ended => 1 | .lapsed => 2 | .dropped => 3 | .disabled => 4

/-- A local feed by its number, as one of the six feeds. -/
def localFeed (f : Fin 4) : Fin 6 :=
  ⟨f.val, by omega⟩

/-- An alert feed by its number, A0 or A1, as one of the six feeds. -/
def alertFeed (f : Fin 2) : Fin 6 :=
  ⟨4 + f.val, by omega⟩

/-- A window covers a network PTS from its start up to, not including, its end (section 7.1). -/
def Window.covers (w : Window) (p : Pts) : Bool :=
  atOrAfter p w.start && isAfter w.stop p

/-- A window has ended by N: its end is at or before N. -/
def Window.over (w : Window) (n : Pts) : Bool :=
  atOrAfter n w.stop

/-- A window is removed with its one WINDOW_END: the record is emptied, it leaves its channel's list, and it is no longer the
channel's current window (R120, R134). -/
def State.removeWindow (s : State) (id : Fin 48) (w : Window) (why : WindowEndReason) : State :=
  let n := ((s.chan w.channel).netPts.getD 0).toNat
  let s := s.record ⟨.windowEnd, w.channel, why.code, id, n, w.stop.toNat⟩
  (s.setWindow id none).mapChan w.channel fun ch =>
    { ch with
      windows := ch.windows.filter (· != id)
      window := if ch.window = some id then none else ch.window }

/-- The WINDOW_START of a window whose cursor has just been placed or waits (R125, R131, R134). -/
def State.recordWindowStart (s : State) (c : Fin 32) (id : Fin 48) (placed waiting : WindowStartReason) : State :=
  let ch := s.chan c
  let n := (ch.netPts.getD 0).toNat
  if ch.placed then s.record ⟨.windowStart, c, placed.code, id, n, ch.delta.toNat⟩
  else s.record ⟨.windowStart, c, waiting.code, id, n, 0⟩

/-- A window goes on the output: ACTIVE, current, the channel in SUBST on the window's feed, the cursor placed (R125, R131). -/
def State.showWindow (s : State) (id : Fin 48) (w : Window) (anchor : Anchor) : State :=
  let s := s.setWindow id (some { w with state := .active })
  let s := s.mapChan w.channel fun ch => { ch with window := some id, state := .subst }
  s.placeCursor w.channel (localFeed w.feed) anchor

end Sys2Proof.Machine
end

