-- ==== Sys2Proof/Machine/Alerts.lean ====
section
/-! DEFINITION. The alert controller (chapter 9): arrivals, activation, handover, expiry, and the directives ALERT_SEND,
ALERT_CLEAR, ALERT_MODE and GROUP_EDIT. -/

namespace Sys2Proof.Machine

/-! ## Contexts and their records (R153, R160, R164) -/

def AlertSource.code : AlertSource → Nat
  | .line => 1 | .host => 2

def AlertState.code : AlertState → Nat
  | .active => 1 | .held => 2 | .queued => 3

inductive AlertEndReason where
  | superseded | expired | cleared | dropped
  deriving DecidableEq, Repr

def AlertEndReason.code : AlertEndReason → Nat
  | .superseded => 1 | .expired => 2 | .cleared => 3 | .dropped => 4

/-- House ticks of one second. -/
def secondTicks : Nat := 27000000

/-- The channel is in a set of channels. -/
def maskHas (m : ChannelMask) (c : Fin 32) : Bool :=
  m.getLsbD c

/-- The union of the groups a group mask names, as they stand (R158). -/
def AlertControl.targetOf (a : AlertControl) (groupMask : BitVec 8) : ChannelMask :=
  (List.finRange 8).foldl (fun m (g : Fin 8) => if groupMask.getLsbD g.val then m ||| a.groups[g] else m) 0

/-- The values of an ALERT_START (R160). -/
def AlertContext.startRecord (x : AlertContext) (channel reason : Nat) : Record :=
  ⟨.alertStart, channel, reason, x.alert, (x.target.getD 0).toNat,
    x.duration.getD 0 / secondTicks + 65536 * x.level + 262144 * x.feed⟩

/-- The ALERT_END of a context that ends at house time `house` (R164); `arrived` marks one dropped at its arrival. -/
def AlertContext.endRecord (x : AlertContext) (why : AlertEndReason) (house : Nat) (arrived : Bool) : Record :=
  let elapsed := match x.activated with
    | some t => (house - t) / secondTicks
    | none => 0
  ⟨.alertEnd, 255, why.code, x.alert, elapsed, if arrived then 0 else x.state.code⟩

/-- A context ends: its one ALERT_END is handed over (R164). -/
def State.recordAlertEnd (s : State) (x : AlertContext) (why : AlertEndReason) : State :=
  s.record (x.endRecord why s.house false)

/-! ## Channels into and out of ALERT (R129, R131, R159) -/

/-- The ACTIVE window of a channel taken into ALERT becomes SUSPENDED and stays its current window (R129). -/
def State.suspendWindow (s : State) (c : Fin 32) : State :=
  match (s.chan c).window with
  | none => s
  | some id =>
    match s.window id with
    | none => s
    | some w => s.setWindow id (some { w with state := .suspended })

/-- What happens to a channel before it enters ALERT (R159, step 3). -/
def State.beforeAlert (s : State) (c : Fin 32) : State :=
  match (s.chan c).state with
  | .insert => s.abandon c .cut .alert
  | .subst => s.suspendWindow c
  | _ => s

/-- The channel is taken into ALERT on an alert feed (R159). -/
def State.takeIntoAlert (s : State) (c : Fin 32) (feed : Fin 2) : State :=
  let s := s.beforeAlert c
  (s.mapChan c fun ch => { ch with state := .alert }).placeCursor c (alertFeed feed) .immediate

/-- The channel leaves ALERT: its suspended window resumes, or it goes to RETURN_WAIT (R131). -/
def State.leaveAlert (s : State) (c : Fin 32) : State :=
  match (s.chan c).window with
  | none => s.mapChan c Channel.toReturnWait
  | some id =>
    match s.window id with
    | none => s.mapChan c Channel.toReturnWait
    | some w => (s.showWindow id w .immediate).recordWindowStart c id .resumed .resumedWaiting

/-- Do something to each enabled channel of a set, in ascending channel number (R159, R162, R166). -/
def State.forEnabled (s : State) (set : ChannelMask) (f : State → Fin 32 → State) : State :=
  (List.finRange 32).foldl (fun s c => if (s.chan c).enabled && maskHas set c then f s c else s) s

/-! ## Activation and handover (R158, R159, R163) -/

/-- Steps 1 and 2 of activation: ACTIVE, the activation time, the target set, ALERT_START (R159). -/
def State.activate (s : State) (x : AlertContext) : State :=
  let x := { x with state := .active, target := some (s.alerts.targetOf x.groupMask), activated := some s.house }
  { s with alerts := { s.alerts with current := some x } }.record (x.startRecord 255 x.source.code)

/-- The target set of the current context; empty when there is none. -/
def AlertControl.currentSet (a : AlertControl) : ChannelMask :=
  match a.current with
  | some x => x.target.getD 0
  | none => 0

/-- Activation with no current context (R156, R159). -/
def State.activateFresh (s : State) (x : AlertContext) : State :=
  let s := s.activate x
  s.forEnabled s.alerts.currentSet fun s c => s.takeIntoAlert c x.feed

/-- One channel at a handover, by the sets it is in (R163, step 3). -/
def State.handoverChannel (old new : AlertContext) (newSet : ChannelMask) (s : State) (c : Fin 32) : State :=
  if !(s.chan c).enabled then s
  else match maskHas (old.target.getD 0) c, maskHas newSet c with
    | true, false => s.leaveAlert c
    | true, true => if old.feed = new.feed then s else s.placeCursor c (alertFeed new.feed) .immediate
    | false, true => s.takeIntoAlert c new.feed
    | false, false => s

/-- A handover from the current context to a new one (R163). -/
def State.handover (s : State) (old new : AlertContext) (why : AlertEndReason) : State :=
  let s := s.recordAlertEnd old why
  let s := s.activate new
  let newSet := s.alerts.currentSet
  (List.finRange 32).foldl (State.handoverChannel old new newSet) s

/-- The current context ends with nothing in its place: its enabled channels leave ALERT (R162, R166). -/
def State.endCurrent (s : State) (x : AlertContext) (why : AlertEndReason) : State :=
  let s := { s with alerts := { s.alerts with current := none } }.recordAlertEnd x why
  s.forEnabled (x.target.getD 0) State.leaveAlert

/-- The head of the queue becomes current in place of a context that ends (R162, R163, R166). -/
def State.handToHead (s : State) (old head : AlertContext) (rest : List AlertContext) (why : AlertEndReason) : State :=
  { s with alerts := { s.alerts with queue := rest } }.handover old head why

/-! ## Arrivals (R155 to R157) -/

/-- An arrival (R153): `seconds` 0 is open-ended. -/
structure Arrival where
  alert : Nat
  level : Nat
  source : AlertSource
  groupMask : BitVec 8
  feed : Fin 2
  seconds : Nat
  deriving DecidableEq, Repr

/-- What became of an arrival (R155 to R157). -/
inductive ArrivalResult where
  | duplicate | activated | queued | dropped
  deriving DecidableEq, Repr

/-- The context made from an arrival (R153). -/
def Arrival.context (a : Arrival) : AlertContext :=
  ⟨a.alert, a.level, a.source, a.groupMask, a.feed, if a.seconds = 0 then none else some (a.seconds * secondTicks), .queued,
    none, none⟩

/-- The arrival's id is that of the current context, of a queued context, or recent (R155). -/
def AlertControl.knows (a : AlertControl) (alert : Nat) : Bool :=
  (a.current.any fun x => x.alert == alert) || (a.queue.any fun x => x.alert == alert) || a.recent.contains alert

/-- The id of an accepted context joins the recent alert ids (R154). -/
def State.noteAlert (s : State) (alert : Nat) : State :=
  { s with alerts := { s.alerts with recent := joinRecent 8 s.alerts.recent alert } }

/-- The smallest level in a queue of contexts (R157). -/
def lowestLevel (q : List AlertContext) : Nat :=
  q.foldl (fun m x => min m x.level) 4

/-- Take out of a queue the context at a level that joined last (R157). -/
def takeLastAtLevel (level : Nat) (q : List AlertContext) : Option AlertContext × List AlertContext :=
  (q.reverse.find? fun x => x.level == level, (q.reverse.eraseP fun x => x.level == level).reverse)

/-- A context joins the tail of the queue (R157). -/
def State.queueAlert (s : State) (x : AlertContext) : State :=
  { s with alerts := { s.alerts with queue := s.alerts.queue ++ [x] } }.noteAlert x.alert

/-- An arrival behind an ACTIVE context of equal or higher level (R157); one dropped makes its ALERT_END whatever its source (log entry
37). -/
def State.arriveBehind (s : State) (x : AlertContext) : State × ArrivalResult :=
  if s.alerts.queue.length < 4 then (s.queueAlert x, .queued)
  else
    let low := lowestLevel s.alerts.queue
    if low < x.level then
      let taken := takeLastAtLevel low s.alerts.queue
      let s := { s with alerts := { s.alerts with queue := taken.2 } }
      let s := match taken.1 with
        | some y => s.recordAlertEnd y .dropped
        | none => s
      (s.queueAlert x, .queued)
    else (s.record (x.endRecord .dropped s.house true), .dropped)

/-- An arrival, whole, with everything it causes (R155 to R157); a duplicate is counted whatever its source (log entry 37). -/
def State.arrive (s : State) (a : Arrival) : State × ArrivalResult :=
  if s.alerts.knows a.alert then
    ({ s with alerts := { s.alerts with duplicates := sat s.alerts.duplicates } }, .duplicate)
  else
    let x := a.context
    match s.alerts.current with
    | none => ((s.noteAlert x.alert).activateFresh x, .activated)
    | some old =>
      if old.state = .held ∨ old.level < x.level then ((s.noteAlert x.alert).handover old x .superseded, .activated)
      else s.arriveBehind x

/-! ## ALERT_EXPIRY (R162) -/

/-- The current context's duration has run out (R162). -/
def State.expire (s : State) (x : AlertContext) : State :=
  match s.alerts.queue, s.alerts.mode with
  | y :: rest, _ => s.handToHead x y rest .expired
  | [], .holdLast => { s with alerts := { s.alerts with current := some { x with state := .held } } }
  | [], .mayEmpty => s.endCurrent x .expired

/-- ALERT_EXPIRY: the house counter reaches the ACTIVE context's activation time plus its duration (R162). -/
def execAlertExpiry (s : State) : Host.Outcome State Fault Refusal :=
  .next (match s.alerts.current with
    | none => s
    | some x =>
      match x.state, x.activated, x.duration with
      | .active, some t, some d => (s.atTime (t + d)).expire x
      | _, _, _ => s)

/-! ## ALERT_SEND, ALERT_CLEAR, ALERT_MODE, GROUP_EDIT (R165 to R168) -/

/-- ALERT_SEND (R165). A duplicate is counted (R155), and a context dropped at its arrival makes its ALERT_END (R157, R164), although
both are refused and R165 says that a refused ALERT_SEND changes nothing and makes no record (DEDUCED, log entry 37). -/
def State.alertSend (s : State) (t : Ticket) (f : AlertSendFields) : State :=
  if h : f.feed < 2 then
    if f.groupMask = 0 then s.respond t.seq 10 .refusedRange 0 t.slot
    else
      let r := s.arrive ⟨f.alert, clamp 1 3 f.level, .host, BitVec.ofNat 8 f.groupMask, ⟨f.feed, h⟩, min f.seconds 7200⟩
      match r.2 with
      | .duplicate => r.1.respond t.seq 10 .refusedState 1 t.slot
      | .activated => r.1.respond t.seq 10 .done 1 t.slot
      | .queued => r.1.respond t.seq 10 .done 2 t.slot
      | .dropped => r.1.respond t.seq 10 .refusedFull 0 t.slot
  else s.respond t.seq 10 .refusedRange 0 t.slot

def execAlertSend (seq slot : Nat) (fields : AlertSendFields) (s : State) : Host.Outcome State Fault Refusal :=
  .next (s.takeDirective (.alertSend seq slot fields) fun s => s.alertSend ⟨seq, slot⟩ fields)

/-- Each queued context, head first, ends DROPPED and leaves the queue (R166). -/
def State.flushQueue (s : State) : State :=
  let q := s.alerts.queue
  q.foldl (fun s x => s.recordAlertEnd x .dropped) { s with alerts := { s.alerts with queue := [] } }

/-- ALERT_CLEAR (R166). -/
def State.alertClear (s : State) (t : Ticket) (flush : Nat) : State :=
  match s.alerts.current with
  | none => s.respond t.seq 11 .refusedState 1 t.slot
  | some x =>
    let s := if flush = 0 then
        match s.alerts.queue with
        | [] => s.endCurrent x .cleared
        | y :: rest => s.handToHead x y rest .cleared
      else s.flushQueue.endCurrent x .cleared
    s.respond t.seq 11 .done 0 t.slot

def execAlertClear (seq slot flush : Nat) (s : State) : Host.Outcome State Fault Refusal :=
  .next (s.takeDirective (.alertClear seq slot flush) fun s => s.alertClear ⟨seq, slot⟩ flush)

/-- A queue mode by its code (section 11.3). -/
def QueueMode.ofCode : Nat → Option QueueMode
  | 0 => some .mayEmpty
  | 1 => some .holdLast
  | _ => none

/-- ALERT_MODE (R167). -/
def State.alertMode (s : State) (t : Ticket) (mode : Nat) : State :=
  match QueueMode.ofCode mode with
  | none => s.respond t.seq 12 .refusedRange 0 t.slot
  | some m =>
    if s.alerts.current.isSome then s.respond t.seq 12 .refusedState 1 t.slot
    else { s with alerts := { s.alerts with mode := m } }.respond t.seq 12 .done 0 t.slot

def execAlertMode (seq slot mode : Nat) (s : State) : Host.Outcome State Fault Refusal :=
  .next (s.takeDirective (.alertMode seq slot mode) fun s => s.alertMode ⟨seq, slot⟩ mode)

/-- The group after an edit: 0 REPLACE, 1 ADD, 2 REMOVE (R168); `none` for any other edit mode. -/
def editGroup (mode : Nat) (group mask : ChannelMask) : Option ChannelMask :=
  match mode with
  | 0 => some mask
  | 1 => some (group ||| mask)
  | 2 => some (group &&& ~~~mask)
  | _ => none

/-- GROUP_EDIT (R168). -/
def State.groupEdit (s : State) (t : Ticket) (group mode mask : Nat) : State :=
  if h : group < 8 then
    match editGroup mode s.alerts.groups[group] (BitVec.ofNat 32 mask) with
    | none => s.respond t.seq 9 .refusedRange 0 t.slot
    | some g =>
      { s with alerts := { s.alerts with groups := s.alerts.groups.set group g } }.respond t.seq 9 .done 0 t.slot
  else s.respond t.seq 9 .refusedRange 0 t.slot

def execGroupEdit (seq slot group mode mask : Nat) (s : State) : Host.Outcome State Fault Refusal :=
  .next (s.takeDirective (.groupEdit seq slot group mode mask) fun s => s.groupEdit ⟨seq, slot⟩ group mode mask)

end Sys2Proof.Machine
end

