-- ==== Sys2Proof/Machine/Cues.lean ====
section
/-! DEFINITION. The cue unit (chapter 5): cue records, OUT, IN and CANCEL cues, the avail queue and the recent event ids. -/

namespace Sys2Proof.Machine

/-! ## The cue record (section 5.1) -/

inductive CueKind where
  | out | inn | cancel
  deriving DecidableEq, Repr

/-- The fields of an accepted cue. -/
structure Cue where
  kind : CueKind
  event : Nat
  time : Option Pts
  duration : Option Nat
  autoReturn : Bool
  avail : Nat
  deriving DecidableEq, Repr

/-- What becomes of a cell handed to the cue unit (R83 to R86). -/
inductive CueOutcome where
  | ignored
  | bad
  | accepted (cue : Cue)
  deriving DecidableEq, Repr

/-- The 33-bit value coded in 5 bytes as a splice time: bit 32 in bit 0 of the first byte (section 5.1). -/
def cueValue (p : List Byte) (i : Nat) : Pts :=
  (p.getD i 0).extractLsb' 0 1 ++ p.getD (i + 1) 0 ++ p.getD (i + 2) 0 ++ p.getD (i + 3) 0 ++ p.getD (i + 4) 0

/-- Bit 7 of the flags: time present. -/
def cueHasTime (p : List Byte) : Bool :=
  (p.getD 7 0).getLsbD 7

/-- Bit 6 of the flags: duration present. -/
def cueHasDuration (p : List Byte) : Bool :=
  (p.getD 7 0).getLsbD 6

/-- Where the duration stands, after the splice time when that is present. -/
def cueDurationAt (p : List Byte) : Nat :=
  if cueHasTime p then 13 else 8

/-- Where the avail number stands: byte 8, 13 or 18 (section 5.1). -/
def cueAvailAt (p : List Byte) : Nat :=
  cueDurationAt p + if cueHasDuration p then 5 else 0

/-- The check of a whole record holds (R85). -/
def cueCheck (p : List Byte) : Bool :=
  (crc32 (p.take (cueAvailAt p + 1))).toNat == beField p (cueAvailAt p + 1) 4

/-- The fields of a record that passes its check (R86). -/
def decodeCue (p : List Byte) : CueOutcome :=
  let duration := (cueValue p (cueDurationAt p)).toNat
  if p.getD 1 0 ≠ 1 then .bad
  else if cueHasDuration p && decide (2 ^ 32 ≤ duration) then .bad
  else
    let kind? : Option CueKind := match (p.getD 2 0).toNat with
      | 1 => some .out
      | 2 => some .inn
      | 3 => some .cancel
      | _ => none
    match kind? with
    | none => .bad
    | some kind =>
      .accepted ⟨kind, beField p 3 4, if cueHasTime p then some (cueValue p 8) else none,
        if cueHasDuration p then some duration else none, (p.getD 7 0).getLsbD 5, (p.getD (cueAvailAt p) 0).toNat⟩

/-- The sorting and decoding of a handed cell (R83 to R86); `p` is the payload. -/
def sortCue (c : List Byte) : CueOutcome :=
  match payloadStart c with
  | none => .ignored
  | some start =>
    if !payloadUnitStart c then .ignored
    else if scrambling c ≠ 0 then .bad
    else
      let p := (c.take 192).drop start
      if p.getD 0 0 ≠ 0xE5#8 then .ignored
      else if p.length < 8 || decide (p.length < cueAvailAt p + 5) then .bad
      else if !cueCheck p then .bad
      else decodeCue p

/-! ## Counts (R87, R90) -/

def State.countBadCue (s : State) (c : Fin 32) : State :=
  s.mapChan c fun ch => { ch with counts := { ch.counts with cueBad := sat ch.counts.cueBad } }

def State.countDuplicate (s : State) (c : Fin 32) : State :=
  s.mapChan c fun ch => { ch with counts := { ch.counts with duplicates := sat ch.counts.duplicates } }

/-! ## OUT cues (R90 to R93, R81) -/

/-- The event id is that of a queued event. -/
def Channel.queued (ch : Channel) (event : Nat) : Bool :=
  ch.queue.any fun e => e.event == event

/-- The event id is that of the current avail. -/
def Channel.playing (ch : Channel) (event : Nat) : Bool :=
  ch.avail.any fun a => a.event == event

/-- The slot of the binding an OUT cue takes: the avail number's own, else ANY (R81, R91). -/
def bindingFor (t : Vector (Option Binding) 8) (avail : Nat) : Option (Fin 8) :=
  let holds (key : Option Nat) (i : Fin 8) : Bool := t[i].any fun b => b.key == key
  ((List.finRange 8).find? (holds (some avail))).or ((List.finRange 8).find? (holds none))

/-- Take one use of a binding: unlimited stays, the last use removes it (R81). -/
def Binding.useOne (b : Binding) : Option Binding :=
  if b.uses = 0 then some b else if b.uses = 1 then none else some { b with uses := b.uses - 1 }

/-- Insert an event before the first event whose splice time is after its own (R92). -/
def insertEvent (e : AvailEvent) : List AvailEvent → List AvailEvent
  | [] => [e]
  | x :: xs => if isAfter x.time e.time then e :: x :: xs else x :: insertEvent e xs

/-- The event a queue of five loses under the full policy (R93): the new one, or the tail. -/
def lostEvent (p : FullPolicy) (e : AvailEvent) (q : List AvailEvent) : AvailEvent :=
  match p with
  | .keep => e
  | .earliest => q.getLastD e

def FullPolicy.code : FullPolicy → Nat
  | .keep => 1 | .earliest => 2

/-- The new event joins the queue, and a queue of five loses one event with CUE_LOST (R92, R93). -/
def State.enqueue (s : State) (c : Fin 32) (e : AvailEvent) : State :=
  let ch := s.chan c
  let q := insertEvent e ch.queue
  if q.length ≤ 4 then s.mapChan c fun ch => { ch with queue := q }
  else
    let lost := lostEvent ch.config.policy e q
    let s := s.mapChan c fun ch => { ch with queue := q.eraseP fun x => x.event == lost.event }
    let s := s.record ⟨.cueLost, c, ch.config.policy.code, lost.event, lost.time.toNat, lost.avail⟩
    s.mapChan c fun ch => { ch with recent := joinRecent 4 ch.recent lost.event }

/-- An OUT cue with its resolved time (R90, R91, R92). -/
def State.outCue (s : State) (c : Fin 32) (cue : Cue) (t : Pts) : State :=
  let ch := s.chan c
  if ch.queued cue.event || ch.playing cue.event || ch.recent.contains cue.event then s.countDuplicate c
  else
    let table := s.bindingTable c
    match bindingFor table cue.avail with
    | none => s.record ⟨.cueUnbound, c, 0, cue.event, t.toNat, cue.avail⟩
    | some i =>
      match table[i] with
      | none => s
      | some b =>
        let s := s.setBindings c (table.set i b.useOne)
        s.enqueue c ⟨cue.event, t, cue.duration, cue.autoReturn, cue.avail, b.pod, none⟩

/-! ## IN and CANCEL cues (R94, R95) -/

/-- Set the current avail's return time, of kind CUE_IN (R94). -/
def Channel.setReturn (ch : Channel) (t : Pts) : Channel :=
  { ch with avail := ch.avail.map fun a => { a with ret := some (t, .cueIn) } }

/-- An id that neither names a queued event nor the current avail: a duplicate when recent, else CUE_BAD (R94, R95). -/
def State.unmatchedCue (s : State) (c : Fin 32) (event : Nat) : State :=
  if (s.chan c).recent.contains event then s.countDuplicate c else s.countBadCue c

/-- An IN cue with its resolved time (R94). -/
def State.inCue (s : State) (c : Fin 32) (cue : Cue) (t : Pts) : State :=
  let ch := s.chan c
  if ch.playing cue.event then s.mapChan c fun ch => ch.setReturn t
  else if ch.queued cue.event then
    s.mapChan c fun ch =>
      { ch with queue := ch.queue.map fun e => if e.event = cue.event then { e with ret := some t } else e }
  else s.unmatchedCue c cue.event

/-- A CANCEL (R95). -/
def State.cancelCue (s : State) (c : Fin 32) (cue : Cue) : State :=
  let ch := s.chan c
  match ch.queue.find? fun e => e.event == cue.event with
  | some e => s.retire c e .cancelled 0
  | none =>
    if ch.playing cue.event then
      match ch.ingestPts with
      | some t => s.mapChan c fun ch => ch.setReturn t
      | none => s.countBadCue c
    else s.unmatchedCue c cue.event

/-- An accepted cue: its time is resolved, except for a CANCEL, before its kind is acted on (R88). -/
def State.takeCue (s : State) (c : Fin 32) (cue : Cue) : State :=
  match cue.kind with
  | .cancel => s.cancelCue c cue
  | .out =>
    match cue.time.or (s.chan c).ingestPts with
    | some t => s.outCue c cue t
    | none => s.countBadCue c
  | .inn =>
    match cue.time.or (s.chan c).ingestPts with
    | some t => s.inCue c cue t
    | none => s.countBadCue c

/-- A cell handed to the cue unit (R29, R83). -/
def State.cueCell (s : State) (c : Fin 32) (cell : List Byte) : State :=
  match sortCue cell with
  | .ignored => s
  | .bad => s.countBadCue c
  | .accepted cue => s.takeCue c cue

end Sys2Proof.Machine
end

