-- ==== Sys2Proof/Machine/Ingest.lean ====
section
/-! DEFINITION. The ingest monitor (section 2.3): whole cells of a ring write, the clock tracker, the ingest video PTS, and the
feed trackers. -/

namespace Sys2Proof.Machine

/-! ## Clock tracker (R30, R32) -/

/-- What a clock sample says of the tracker: the tracker after it, the deviation, and whether the status changed to or from
STEADY. -/
structure ClockStep where
  tracker : ClockTracker
  deviation : Int
  lost : Bool
  gained : Bool
  deriving DecidableEq, Repr

/-- A clock sample of PCR total `total` and arrival stamp `stamp` (R30). -/
def ClockTracker.sample (t : ClockTracker) (tolerance total : Nat) (stamp : Stamp) : ClockStep :=
  match t.status, t.last with
  | .unseen, _ => ⟨⟨.unsteady, some (total, stamp), 0⟩, 0, false, false⟩
  | _, none => ⟨⟨.unsteady, some (total, stamp), 0⟩, 0, false, false⟩
  | st, some (lastTotal, lastStamp) =>
    let predicted := (lastTotal + stampSpan lastStamp stamp) % pcrModulus
    let d := pcrDifference total predicted
    if tolerance < d.natAbs then ⟨⟨.unsteady, some (total, stamp), 0⟩, d, st == .steady, false⟩
    else
      let settle := min (t.settle + 1) 4
      let st' := if settle = 4 then .steady else st
      ⟨⟨st', some (total, stamp), settle⟩, d, false, st' == .steady && st != .steady⟩

/-- The reason codes of CLOCK_UNSTEADY (R174). -/
inductive ClockReason where
  | ahead | behind | pidChange
  deriving DecidableEq, Repr

def ClockReason.code : ClockReason → Nat
  | .ahead => 1 | .behind => 2 | .pidChange => 3

/-- A clock sample from a cell's readable PCR, with its records (R30, R32). -/
def State.clockSample (s : State) (c : Fin 32) (total : Nat) (stamp : Stamp) : State :=
  let ch := s.chan c
  let r := ch.clock.sample ch.config.clockTolerance total stamp
  let s := s.mapChan c fun ch => { ch with clock := r.tracker }
  if r.lost then
    let why : ClockReason := if 0 < r.deviation then .ahead else .behind
    s.record ⟨.clockUnsteady, c, why.code, 0, total / 300, min r.deviation.natAbs (2 ^ 33 - 1)⟩
  else if r.gained then s.record ⟨.clockSteady, c, 0, 0, total / 300, r.deviation.natAbs⟩
  else s

/-! ## Channel cells (R27 to R29) -/

/-- What a cell on the channel's VIDEO PID does (R27 step 2, R28, R30). -/
def State.videoIngest (s : State) (c : Fin 32) (cell : List Byte) : State :=
  let s := match readPts cell with
    | some p => s.mapChan c fun ch => { ch with ingestPts := some p }
    | none => s
  match readPcr cell with
  | some total => s.clockSample c total (arrivalStamp cell)
  | none => s

/-- A whole cell of channel `c`'s ring is taken (R27). -/
def State.takeChannelCell (s : State) (c : Fin 32) (cell : List Byte) : State :=
  if !(s.chan c).enabled then s
  else if !wellFormed cell then
    s.mapChan c fun ch => { ch with malformedIngest := sat ch.malformedIngest }
  else
    let s := if (s.chan c).pidOf .video = some (cellPid cell) then s.videoIngest c cell else s
    if (s.chan c).config.cuePid = some (cellPid cell) then s.cueCell c cell else s

/-! ## Feed cells (R34, R35) -/

/-- The skip from the next index to index `i` in a ring of `cells` cells (R34). -/
def FeedTracker.skip (t : FeedTracker) (cells i : Nat) : Nat :=
  (i + cells - t.next % cells) % cells

/-- A whole cell of the feed's ring at index `i` is taken (R34, R35). -/
def FeedTracker.takeCell (t : FeedTracker) (cells i : Nat) (cell : List Byte) : FeedTracker :=
  let skip := t.skip cells i
  let number := t.written + BitVec.ofNat 32 skip
  let written := number + 1
  let latest := match entryPts t.roles[Role.video.idx] cell with
    | some p => some (number, p)
    | none => t.latest
  { t with
    written := written
    next := (i + 1) % cells
    latest := latest.filter fun e => decide ((written - e.1).toNat < cells)
    malformed := if wellFormed cell then t.malformed else sat t.malformed
    breaks := if i = t.next then t.breaks else sat t.breaks }

def State.takeFeedCell (s : State) (f : Fin 6) (i : Nat) (cell : List Byte) : State :=
  s.mapFeed f fun t => t.takeCell (s.feedRing f).cells i cell

/-! ## Ring writes (R26) -/

/-- The ring a whole cell lies in. -/
inductive RingOf where
  | channel (c : Fin 32)
  | feed (f : Fin 6)
  deriving DecidableEq, Repr

/-- A whole cell of a reported write. -/
structure WholeCell where
  addr : Nat
  ring : RingOf
  index : Nat
  bytes : List Byte
  deriving DecidableEq, Repr

/-- The first index of a ring whose cell begins at or after `addr`. -/
def Ring.firstIndex (r : Ring) (addr : Nat) : Nat :=
  (addr - r.base + 191) / 192

/-- Every byte of the 192 at `off` of the run is enabled. -/
def allEnabled (enables : List Bool) (off : Nat) : Bool :=
  decide ((slice enables off 192).length = 192) && (slice enables off 192).all id

/-- The whole cells of ring `r` in a write (R26). A write of at most 512 bytes holds at most two. -/
def Ring.wholeCells (r : Ring) (ring : RingOf) (addr : Nat) (data : List Byte) (enables : List Bool) : List WholeCell :=
  let i := r.firstIndex addr
  [i, i + 1].filterMap fun i =>
    let a := r.base + 192 * i
    if i < r.cells && decide (addr ≤ a) && allEnabled enables (a - addr) then some ⟨a, ring, i, slice data (a - addr) 192⟩
    else none

/-- Insert a whole cell in ascending address order. -/
def insertCell (x : WholeCell) : List WholeCell → List WholeCell
  | [] => [x]
  | y :: ys => if x.addr < y.addr then x :: y :: ys else y :: insertCell x ys

/-- The whole cells of a write in ascending address order (R26). -/
def RegionMap.wholeCells (m : RegionMap) (addr : Nat) (data : List Byte) (enables : List Bool) : List WholeCell :=
  let channels := (List.finRange 32).flatMap fun c =>
    match m.channelRings[c] with
    | some r => r.wholeCells (.channel c) addr data enables
    | none => []
  let feeds := (List.finRange 6).flatMap fun f => m.feedRings[f].wholeCells (.feed f) addr data enables
  (channels ++ feeds).foldl (fun l x => insertCell x l) []

/-- One whole cell is taken (R26). -/
def State.takeWholeCell (s : State) (x : WholeCell) : State :=
  match x.ring with
  | .channel c => s.takeChannelCell c x.bytes
  | .feed f => s.takeFeedCell f x.index x.bytes

/-- A ring write is reported: its whole cells are taken in ascending address order, each to completion (R8, R26). -/
def State.reportRingWrite (s : State) (addr : Nat) (data : List Byte) (enables : List Bool) : State :=
  match s.map with
  | none => s
  | some m => (m.wholeCells addr data enables).foldl State.takeWholeCell s

end Sys2Proof.Machine
end

