-- ==== Sys2Proof/Machine/Operands.lean ====
section
/-! DEFINITION. The operands of a directive as its 64-byte record carries them (sections 11.1 and 11.3), and the field codings
that directives and the boot record share. -/

namespace Sys2Proof.Machine

/-- A PID field, FFFFh for absent (section 11.3). -/
def pidField (v : Nat) : Option Nat :=
  if v = 0xFFFF then none else some v

/-- Six PID fields, VIDEO to DATA2, as a role map. -/
def roleMapOf (l : List Nat) : RoleMap :=
  Vector.ofFn fun i : Fin 6 => pidField (l.getD i.val 0xFFFF)

/-- `n` fields of `w` bytes each, from `off` on, least significant byte first. -/
def leFields (bs : List Byte) (off w n : Nat) : List Nat :=
  (List.range n).map fun i => leField bs (off + w * i) w

/-- A limit field: FFFFFFFFh takes the default, any other value is clamped to the range (R39). -/
def limitField (dflt lo hi v : Nat) : Nat :=
  if v = 0xFFFFFFFF then dflt else clamp lo hi v

/-- A full policy by its code (section 11.3). -/
def FullPolicy.ofCode : Nat → Option FullPolicy
  | 0 => some .keep
  | 1 => some .earliest
  | _ => none

/-- The body of a CHANNEL_SET (section 11.3). -/
def channelSetBody (r : List Byte) : ChannelSetFields :=
  ⟨leField r 4 1, leField r 5 1, leFields r 6 2 6, leField r 18 2, leField r 20 1, leField r 24 4, leField r 28 4,
    leField r 32 4, leField r 36 4⟩

/-- The body of a CLIP_LOAD (section 11.3). -/
def clipLoadBody (r : List Byte) : ClipLoadFields :=
  ⟨leField r 4 1, leField r 5 1, leField r 8 8, leField r 16 4, leField r 20 4,
    (List.range 8).map fun i => (leField r (24 + 3 * i) 2, leField r (26 + 3 * i) 1)⟩

/-- The body of a BIND (section 11.3). -/
def bindBody (r : List Byte) : BindFields :=
  ⟨leField r 4 1, leField r 5 1, leField r 6 2, leField r 8 1, leFields r 9 1 4⟩

/-- The body of a WINDOW_ADD (section 11.3). -/
def windowAddBody (r : List Byte) : WindowAddFields :=
  ⟨leField r 4 1, leField r 5 1, leField r 6 1, leField r 8 8, leField r 16 8⟩

/-- The body of an ALERT_SEND (section 11.3). -/
def alertSendBody (r : List Byte) : AlertSendFields :=
  ⟨leField r 4 2, leField r 6 1, leField r 7 1, leField r 8 1, leField r 10 2⟩

/-- The sequence number of a directive record. -/
def recordSeq (r : List Byte) : Nat :=
  leField r 0 2

/-- The kind of a directive record. -/
def recordKind (r : List Byte) : Nat :=
  leField r 2 1

/-- The directive a record fetched from `slot` spells; `none` for an unknown kind (R187). -/
def parseDirective (r : List Byte) (slot : Nat) : Option Instr :=
  let q := recordSeq r
  match recordKind r with
  | 1 => some (.channelSet q slot (channelSetBody r))
  | 2 => some (.clipLoad q slot (clipLoadBody r))
  | 3 => some (.clipFree q slot (leField r 4 1))
  | 4 => some (.bind q slot (bindBody r))
  | 5 => some (.unbind q slot (leField r 4 1) (leField r 6 2))
  | 6 => some (.availAbort q slot (leField r 4 1) (leField r 8 4))
  | 7 => some (.windowAdd q slot (windowAddBody r))
  | 8 => some (.windowDrop q slot (leField r 4 1))
  | 9 => some (.groupEdit q slot (leField r 4 1) (leField r 5 1) (leField r 8 4))
  | 10 => some (.alertSend q slot (alertSendBody r))
  | 11 => some (.alertClear q slot (leField r 4 1))
  | 12 => some (.alertMode q slot (leField r 4 1))
  | 13 => some (.logClose q slot)
  | 14 => some (.logRestart q slot)
  | 15 => some (.status q slot (leField r 4 1) (leField r 5 1) (leField r 8 8))
  | _ => none

end Sys2Proof.Machine
end

