-- ==== Sys2Proof/Machine/ChannelSet.lean ====
section
/-! DEFINITION. CHANNEL_SET (section 3.2): configuring, enabling and disabling a channel, and the enable into ALERT (R161). -/

namespace Sys2Proof.Machine

/-! ## The configuration of a directive (R39) -/

/-- The configuration an accepted enabling CHANNEL_SET stores (R39). -/
def channelConfigOf (f : ChannelSetFields) (policy : FullPolicy) : ChannelConfig :=
  { roles := roleMapOf f.pids
    cuePid := pidField f.cuePid
    policy := policy
    lateTolerance := limitField 45000 0 900000 f.lateTolerance
    maxBreak := limitField 21600000 90000 108000000 f.maxBreak
    returnLimit := limitField 4096 64 65535 f.returnLimit
    clockTolerance := limitField 270000 2700 27000000 f.clockTolerance }

/-- The given PIDs of a role map. -/
def RoleMap.pids (m : RoleMap) : List Nat :=
  m.toList.filterMap id

/-- No PID stands twice. -/
def noRepeat : List Nat → Bool
  | [] => true
  | x :: xs => !xs.contains x && noRepeat xs

/-- VIDEO is given, every PID is at most 8190, and no two roles share one (R33, R39). -/
def RoleMap.valid (m : RoleMap) : Bool :=
  m[Role.video.idx].isSome && m.pids.all (fun p => decide (p ≤ 8190)) && noRepeat m.pids

/-- The PIDs and the policy of an enabling CHANNEL_SET pass their test (R39). -/
def ChannelConfig.valid (g : ChannelConfig) : Bool :=
  g.roles.valid && g.cuePid.all fun p => decide (p ≤ 8190)

/-! ## Enabling (R40, R161) -/

/-- The initial values of an enable from OFF (R40). -/
def Channel.enableWith (ch : Channel) (g : ChannelConfig) : Channel :=
  { ch with
    config := g
    state := .network
    source := .network
    delta := 0
    continuity := Vector.replicate 6 Continuity.reset
    pcrMark := false
    outPts := none
    netPts := none
    ingestPts := none
    clock := ClockTracker.reset
    nullCount := 0
    counts := ChannelCounts.zero
    malformedIngest := 0 }

/-- An enable straight into ALERT on the current context's feed, with ALERT_START ENABLED (R161). -/
def State.enableIntoAlert (s : State) (c : Fin 32) (x : AlertContext) : State :=
  let s := (s.mapChan c fun ch => { ch with state := .alert }).placeCursor c (alertFeed x.feed) .immediate
  s.record (x.startRecord c 3)

/-- An accepted enabling CHANNEL_SET of an OFF channel (R40, R161). -/
def State.enableChannel (s : State) (c : Fin 32) (g : ChannelConfig) : State :=
  let s := s.mapChan c fun ch => ch.enableWith g
  match s.alerts.current with
  | some x => if maskHas (x.target.getD 0) c then s.enableIntoAlert c x else s
  | none => s

/-! ## Reconfiguring (R41) -/

/-- The continuity state of each role after its PID may have changed (R41). -/
def Channel.keepContinuity (ch : Channel) (g : ChannelConfig) : Vector Continuity 6 :=
  Vector.ofFn fun i : Fin 6 => if ch.config.roles[i] = g.roles[i] then ch.continuity[i] else Continuity.reset

/-- A changed VIDEO PID resets the ingest side, O and N (R41, R28, R31). -/
def Channel.forgetVideo (ch : Channel) : Channel :=
  { ch with ingestPts := none, clock := ClockTracker.reset, outPts := none, netPts := none }

/-- The base of the clock tracker's last total (R32). -/
def ClockTracker.lastBase (t : ClockTracker) : Nat :=
  match t.last with
  | some l => l.1 / 300
  | none => 0

/-- A changed VIDEO PID, with CLOCK_UNSTEADY PID_CHANGE when the tracker was STEADY (R31, R32, R41). -/
def State.changeVideo (s : State) (c : Fin 32) : State :=
  let t := (s.chan c).clock
  let s := s.mapChan c Channel.forgetVideo
  if t.status = .steady then s.record ⟨.clockUnsteady, c, ClockReason.pidChange.code, 0, t.lastBase, 0⟩ else s

/-- An accepted enabling CHANNEL_SET of a channel in NETWORK (R41). -/
def State.reconfigure (s : State) (c : Fin 32) (g : ChannelConfig) : State :=
  let video := (s.chan c).pidOf .video
  let s := s.mapChan c fun ch => { ch with config := g, continuity := ch.keepContinuity g }
  if video = g.roles[Role.video.idx] then s else s.changeVideo c

/-! ## Disabling (R42, R43) -/

/-- Each event of the queue is retired DISABLED, in queue order (R42). -/
def State.retireQueue (s : State) (c : Fin 32) : State :=
  (s.chan c).queue.foldl (fun s e => s.retire c e .disabled 0) s

/-- Each window of the channel is removed DISABLED, in order of start (R42, R133). -/
def State.removeWindows (s : State) (c : Fin 32) : State :=
  (s.chan c).windows.foldl (fun s id =>
    match s.window id with
    | some w => s.removeWindow id w .disabled
    | none => s) s

/-- The values of a context at the end of a disable; configuration, counts, read in hand and ready reads stay (R43). -/
def Channel.disabled (ch : Channel) : Channel :=
  { ch.setSource .none with
    state := .off
    avail := none
    clipAnchor := none
    window := none
    delta := 0
    continuity := Vector.replicate 6 Continuity.reset
    pcrMark := false
    outPts := none
    netPts := none
    nullCount := 0
    ingestPts := none
    clock := ClockTracker.reset
    queue := []
    recent := []
    windows := [] }

/-- A disable of an enabled channel (R42, R43). -/
def State.disableChannel (s : State) (c : Fin 32) : State :=
  let s := if (s.chan c).state = .insert then s.abandon c .cut .disabled else s
  (((s.retireQueue c).removeWindows c)).mapChan c Channel.disabled

/-! ## The directive (R39) -/

/-- The tests and the work of an enabling CHANNEL_SET (R39). -/
def State.channelEnable (s : State) (c : Fin 32) (t : Ticket) (f : ChannelSetFields) : State :=
  let st := (s.chan c).state
  if st ≠ .off ∧ st ≠ .network then s.respond t.seq 1 .refusedState 0 t.slot
  else if (s.channelRing c).isNone then s.respond t.seq 1 .refusedRange 0 t.slot
  else match FullPolicy.ofCode f.policy with
    | none => s.respond t.seq 1 .refusedRange 0 t.slot
    | some policy =>
      let g := channelConfigOf f policy
      if !g.valid then s.respond t.seq 1 .refusedRange 0 t.slot
      else
        let s := if st = .off then s.enableChannel c g else s.reconfigure c g
        s.respond t.seq 1 .done 0 t.slot

/-- CHANNEL_SET (R39 to R43). -/
def State.channelSet (s : State) (t : Ticket) (f : ChannelSetFields) : State :=
  if h : f.channel < 32 then
    let c : Fin 32 := ⟨f.channel, h⟩
    if f.enable = 0 then
      let s := if (s.chan c).state = .off then s else s.disableChannel c
      s.respond t.seq 1 .done 0 t.slot
    else s.channelEnable c t f
  else s.respond t.seq 1 .refusedRange 0 t.slot

def execChannelSet (seq slot : Nat) (fields : ChannelSetFields) (s : State) : Host.Outcome State Fault Refusal :=
  .next (s.takeDirective (.channelSet seq slot fields) fun s => s.channelSet ⟨seq, slot⟩ fields)

end Sys2Proof.Machine
end

