-- ==== Sys2Proof/Machine/Checks.lean ====
section
/-! DEFINITION. The checks of a channel at a network entry cell (R46, R47): windows, avails, returns. -/

namespace Sys2Proof.Machine

/-! ## Splice-out (R101, R105, R107) -/

/-- The log gate: the log is OPEN and its room is at or above the log reserve (R105). -/
def State.logGate (s : State) : Bool :=
  s.log.state == .open && decide (s.log.reserve ≤ s.log.room)

/-- The return time of the current avail made from an event that splices out at S (R101). -/
def AvailEvent.returnAt (e : AvailEvent) (splice : Pts) : Option (Pts × ReturnKind) :=
  match e.ret, e.duration with
  | some r, _ => some (r, .cueIn)
  | none, some d => some (splice + BitVec.ofNat 33 d, .breakEnd)
  | none, none => none

/-- The current avail made from an event (R107, step 1). -/
def AvailEvent.toAvail (e : AvailEvent) (splice : Pts) : CurrentAvail :=
  ⟨e.event, e.avail, splice, e.returnAt splice, e.autoReturn, e.pod, 0⟩

/-- Splice-out of the queue head at a network entry cell with entry PTS `n` (R107, R108). -/
def State.spliceOut (s : State) (c : Fin 32) (e : AvailEvent) (n : Pts) : State :=
  let s := s.mapChan c fun ch => { ch with queue := ch.queue.tail, avail := some (e.toAvail n), state := .insert }
  let first := e.pod.headD 0
  let s := s.startClip c first n
  let s := s.record ⟨.availStart, c, 0, e.event, n.toNat, e.avail⟩
  s.recordClipStart c first n

/-- The avail test of a channel in NETWORK (R46, R104): the head is examined while it is due. The count bounds the
examinations by the queue's length. -/
def State.availTestLoop (c : Fin 32) (n : Pts) : Nat → State → State
  | 0, s => s
  | k + 1, s =>
    match (s.chan c).queue with
    | [] => s
    | e :: _ =>
      if !e.due n then s
      else if (s.chan c).config.lateTolerance < e.lateness n then
        State.availTestLoop c n k (s.retire c e .late (e.lateness n))
      else if (s.chan c).clock.status ≠ .steady then
        State.availTestLoop c n k (s.retire c e .unsteady (e.lateness n))
      else if !s.logGate then
        State.availTestLoop c n k (s.retire c e .logFull (e.lateness n))
      else (s.spliceOut c e n).overlapTest c n

def State.availTest (s : State) (c : Fin 32) (n : Pts) : State :=
  State.availTestLoop c n (s.chan c).queue.length s

/-! ## Windows (R124, R125, R127) -/

/-- A window that covers N starts at this cell, and the SUBST checks run: a due head is retired SUPPRESSED (R47, R125). -/
def State.startWindow (s : State) (c : Fin 32) (id : Fin 48) (w : Window) (n : Pts) : State :=
  let s := s.showWindow id w (.cell n)
  let s := s.recordWindowStart c id .started .startedWaiting
  s.retireAllDue c n .suppressed

/-- The window test of a channel in NETWORK (R124). A SCHEDULED window whose end is at or before N is retired LAPSED even when its
start lies so far back that it reads as after N (DESIGN CHOICE, log entry 32). The count bounds the lapses by the list's length. -/
def State.windowTestLoop (c : Fin 32) (n : Pts) : Nat → State → State
  | 0, s => s
  | k + 1, s =>
    match (s.chan c).windows with
    | [] => s
    | id :: _ =>
      match s.window id with
      | none => s
      | some w =>
        if w.state = .scheduled ∧ w.over n then State.windowTestLoop c n k (s.removeWindow id w .lapsed)
        else if w.covers n then s.startWindow c id w n
        else s

def State.windowTest (s : State) (c : Fin 32) (n : Pts) : State :=
  State.windowTestLoop c n (s.chan c).windows.length s

/-! ## The check table (R46, R47) -/

/-- The avail test, made if the channel is still in NETWORK. -/
def State.availTestInNetwork (s : State) (c : Fin 32) (n : Pts) : State :=
  if (s.chan c).state = .network then s.availTest c n else s

/-- The NETWORK checks: the window test, then the avail test. -/
def State.networkChecks (s : State) (c : Fin 32) (n : Pts) : State :=
  (s.windowTest c n).availTestInNetwork c n

/-- The return to NETWORK of a channel at this cell (R53). -/
def State.returnToNetwork (s : State) (c : Fin 32) : State :=
  s.mapChan c Channel.toNetwork

/-- Why a channel in INSERT returns at a network entry cell, if it does (R112). -/
def CurrentAvail.returnReason (a : CurrentAvail) (maxBreak : Nat) (n : Pts) : Option AvailEndReason :=
  match a.ret with
  | some (r, .cueIn) =>
    if atOrAfter n r then some .cueIn
    else if atOrAfter n (a.splice + BitVec.ofNat 33 maxBreak) then some .timeout else none
  | some (r, .breakEnd) =>
    if a.autoReturn && atOrAfter n r then some .breakEnd
    else if atOrAfter n (a.splice + BitVec.ofNat 33 maxBreak) then some .timeout else none
  | none => if atOrAfter n (a.splice + BitVec.ofNat 33 maxBreak) then some .timeout else none

/-- The INSERT checks: the return test (R113), then the OVERLAP test. -/
def State.insertChecks (s : State) (c : Fin 32) (n : Pts) : State :=
  match (s.chan c).avail with
  | none => s
  | some a =>
    match a.returnReason (s.chan c).config.maxBreak n with
    | some why => (((s.leaveClip c .cut).endAvail c why n).returnToNetwork c).networkChecks c n
    | none => s.overlapTest c n

/-- The SUBST checks: the end test, after which only the avail test runs (R47, R127); otherwise due heads are SUPPRESSED. -/
def State.substChecks (s : State) (c : Fin 32) (n : Pts) : State :=
  match (s.chan c).window with
  | none => s
  | some id =>
    match s.window id with
    | none => s
    | some w =>
      if w.over n then ((s.removeWindow id w .ended).returnToNetwork c).availTestInNetwork c n
      else s.retireAllDue c n .suppressed

/-- The ALERT checks: due heads are retired ALERT, and a suspended window that has ended is ended (R130). -/
def State.alertChecks (s : State) (c : Fin 32) (n : Pts) : State :=
  let s := s.retireAllDue c n .alert
  match (s.chan c).window with
  | none => s
  | some id =>
    match s.window id with
    | none => s
    | some w => if w.over n then s.removeWindow id w .ended else s

/-- The checks of the state in which a network entry cell with entry PTS `n` finds the channel (R46). -/
def State.entryChecks (s : State) (c : Fin 32) (n : Pts) : State :=
  match (s.chan c).state with
  | .off => s
  | .network => s.networkChecks c n
  | .insert => s.insertChecks c n
  | .subst => s.substChecks c n
  | .alert => s.alertChecks c n
  | .returnWait => (s.returnToNetwork c).networkChecks c n

end Sys2Proof.Machine
end

