-- ==== Sys2Proof/Machine/Reads.lean ====
section
/-! DEFINITION. Taking output reads and producing output cells: TAKE_READ, CLIP_CELL_ARRIVAL, FEED_CELL_ARRIVAL
(sections 3.3, 3.4, 3.6 and 6.4). -/

namespace Sys2Proof.Machine

/-! ## Continuity, the clock mark and O (R56, R58 to R60) -/

/-- The continuity counter of an output cell on a role, and the role's continuity state after it (R58, R59). -/
def Continuity.next (r : Continuity) (payload : Bool) (cc : Cc) : Cc × Continuity :=
  if r.pending then
    if payload then
      let k := match r.last with
        | some l => l + 1 - cc
        | none => 0
      (cc + k, ⟨some (cc + k), k, false⟩)
    else (r.last.getD cc, r)
  else (cc + r.k, { r with last := some (cc + r.k) })

/-- The output cell of a well-formed cell on a role of the channel, its PID and timestamps already those of the output: the
continuity counter (R58, R59), the clock mark (R60), and O (R56). -/
def Channel.emit (ch : Channel) (r : Role) (cell : List Byte) : Channel × List Byte :=
  let step := ch.continuity[r.idx].next (payloadBearing cell) (cellCc cell)
  let cell := setCc cell step.1
  let marks := r == .video && pcrReadable cell && ch.pcrMark
  let cell := if marks then setDiscontinuity cell else cell
  ({ ch with
      continuity := ch.continuity.set r.idx step.2
      pcrMark := ch.pcrMark && !marks
      outPts := if r = .video then (readPts cell).or ch.outPts else ch.outPts },
    cell)

/-! ## Answers -/

/-- Answer a read with an output cell (R49). -/
def State.answerCell (s : State) (entry : Nat) (cell : List Byte) : State :=
  s.answer entry (.ok cell)

/-- Answer a read with a null cell, which is counted (R23, R61). -/
def State.answerNull (s : State) (c : Fin 32) (entry : Nat) (network : List Byte) : State :=
  (s.mapChan c fun ch => { ch with counts := { ch.counts with nulls := sat ch.counts.nulls } }).answer entry
    (.ok (nullCell network))

/-- The network cell as output: a well-formed cell on a role PID passes through the continuity rules, any other cell is
emitted as fetched (R49). -/
def State.emitNetwork (s : State) (c : Fin 32) (entry : Nat) (network : List Byte) : State :=
  let ch := s.chan c
  match roleOfPid ch.config.roles (cellPid network) with
  | some r =>
    if wellFormed network then
      let out := ch.emit r network
      (s.mapChan c fun _ => out.1).answerCell entry out.2
    else s.answerCell entry network
  | none => s.answerCell entry network

/-- A source cell as output: remapped to the channel's PID of its role, rebased, and emitted; `none` when the cell is
malformed, or of no role, or of a role the channel has no PID for (R50, R51, R55, R57). -/
def Channel.emitSource (ch : Channel) (role : Option Role) (cell network : List Byte) : Option (Channel × List Byte) :=
  if !wellFormed cell then none
  else match role with
    | none => none
    | some r =>
      match ch.pidOf r with
      | none => none
      | some pid =>
        let out := ch.emit r (rebase (setPid cell pid) ch.delta)
        some (out.1, withStamp out.2 network)

/-! ## Requesting a source cell (R50, R51) -/

/-- Request the source read in class 1; the read stays in hand (R50, R51). -/
def State.requestSource (s : State) (c : Fin 32) (entry : Nat) (network : List Byte) (addr : Nat) (kind : SourceKind)
    (src : Source) : State :=
  let id := s.bus.next
  { s with bus := s.bus.read 1 addr 192 (.sourceRead c kind) }.mapChan c fun ch =>
    { ch with source := src, inHand := some ⟨entry, network, id, false⟩ }

/-- Read the clip's cell `i`; the next index moves on (R50). -/
def State.requestClip (s : State) (c : Fin 32) (entry : Nat) (network : List Byte) (n : Fin 64) (i : Nat) : State :=
  s.requestSource c entry network ((s.clip n).base + 192 * i) (.clip n) (.clip n (i + 1))

/-- The index of the cell with absolute number `a` in a feed's ring of `cells` cells (R34). -/
def FeedTracker.index (t : FeedTracker) (cells : Nat) (a : Stamp) : Nat :=
  (t.next + cells - (t.written - a).toNat % cells) % cells

/-- Read the feed's cell with absolute number `a`; the cursor moves on (R51). -/
def State.requestFeed (s : State) (c : Fin 32) (entry : Nat) (network : List Byte) (f : Fin 6) (a : Stamp) : State :=
  let ring := s.feedRing f
  s.requestSource c entry network (ring.base + 192 * (s.feed f).index ring.cells a) (.feed f) (.feed f (some (a + 1)))

/-- The cursor has just been placed anew: read at it, or answer a null cell while it waits (R51, R52). -/
def State.supplyPlaced (s : State) (c : Fin 32) (entry : Nat) (network : List Byte) (f : Fin 6) : State :=
  match (s.chan c).source with
  | .feed _ (some a) => s.requestFeed c entry network f a
  | _ => s.answerNull c entry network

/-- A slip: counted, the cursor placed anew on an immediate anchor, and logged with the lap distance and the new Δ, or 0 when
the cursor waits (R51). -/
def State.slip (s : State) (c : Fin 32) (f : Fin 6) (lap : Nat) : State :=
  let s := s.mapChan c fun ch => { ch with counts := { ch.counts with slips := sat ch.counts.slips } }
  let s := s.placeCursor c f .immediate
  s.record ⟨.feedSlip, c, 0, f, lap, if (s.chan c).placed then (s.chan c).delta.toNat else 0⟩

/-- The output of a read whose source is a feed (R51, R52). -/
def State.supplyFeed (s : State) (c : Fin 32) (entry : Nat) (network : List Byte) (f : Fin 6) (cursor : Option Stamp) :
    State :=
  let t := s.feed f
  match cursor with
  | none => if t.latest.isSome then (s.placeCursor c f .immediate).supplyPlaced c entry network f
            else s.answerNull c entry network
  | some a =>
    if a = t.written then
      (s.mapChan c fun ch => { ch with counts := { ch.counts with underflows := sat ch.counts.underflows } }).answerNull c
        entry network
    else if (s.feedRing f).cells ≤ (t.written - a).toNat then
      (s.slip c f (t.written - a).toNat).supplyPlaced c entry network f
    else s.requestFeed c entry network f a

/-- A read in RETURN_WAIT whose network cell is not an entry cell: a null cell below the return limit, a forced return at it
(R48). -/
def State.returnWaitRead (s : State) (c : Fin 32) (entry : Nat) (network : List Byte) : State :=
  let ch := s.chan c
  if ch.nullCount < ch.config.returnLimit then
    (s.mapChan c fun ch => { ch with nullCount := ch.nullCount + 1 }).answerNull c entry network
  else
    let s := s.returnToNetwork c
    let s := s.record ⟨.returnForced, c, 0, 0, ch.nullCount, (ch.netPts.getD 0).toNat⟩
    s.emitNetwork c entry network

/-- The output of a read from the source the channel holds, a clip's next cell being there (R49). -/
def State.supply (s : State) (c : Fin 32) (entry : Nat) (network : List Byte) : State :=
  match (s.chan c).source with
  | .network => s.emitNetwork c entry network
  | .clip n i => s.requestClip c entry network n i
  | .feed f cursor => s.supplyFeed c entry network f cursor
  | .none =>
    if (s.chan c).state = .returnWait then s.returnWaitRead c entry network else s.answerNull c entry network

/-- Why a pod that has run out ends its avail (R111). -/
def CurrentAvail.podEndReason (a : CurrentAvail) (n : Option Pts) : AvailEndReason :=
  match a.ret with
  | none => .complete
  | some (r, _) =>
    match n with
    | some n => if atOrAfter n r then .complete else .short
    | none => .short

/-- The pod has ended at this read, which is taken anew in RETURN_WAIT: at an entry cell the channel returns and the NETWORK
checks follow (R111). -/
def State.podEnd (s : State) (c : Fin 32) (a : CurrentAvail) (entry : Nat) (network : List Byte) (at? : Option Pts) :
    State :=
  let s := s.endAvail c (a.podEndReason (s.chan c).netPts) (s.chan c).endPoint
  let s := s.mapChan c Channel.toReturnWait
  match at? with
  | some n => ((s.returnToNetwork c).networkChecks c n).supply c entry network
  | none => s.returnWaitRead c entry network

/-- The clip is exhausted at this read (R110): CLIP_END COMPLETE, then the pod's next clip supplies the read, or the pod
ends. -/
def State.clipExhausted (s : State) (c : Fin 32) (entry : Nat) (network : List Byte) (at? : Option Pts) : State :=
  let ch := s.chan c
  let s := s.leaveClip c .complete
  match ch.avail with
  | none => s.answerNull c entry network
  | some a =>
    match ch.source, a.pod[a.podIndex + 1]? with
    | .clip n _, some next =>
      let p := ch.clipAnchor.getD 0 + BitVec.ofNat 33 ((s.clip n).duration.getD 0)
      let s := s.mapChan c fun ch => { ch with avail := some { a with podIndex := a.podIndex + 1 } }
      let s := (s.startClip c next p).recordClipStart c next p
      s.requestClip c entry network next 0
    | _, _ => s.podEnd c a entry network at?

/-- The output of a read after the checks of its cell (R49, R50). -/
def State.produce (s : State) (c : Fin 32) (entry : Nat) (network : List Byte) (at? : Option Pts) : State :=
  match (s.chan c).source with
  | .clip n i => if i = (s.clip n).cells then s.clipExhausted c entry network at? else s.supply c entry network
  | _ => s.supply c entry network

/-! ## TAKE_READ (R44, R45) -/

/-- A read of an enabled channel whose network cell has been fetched (R45). -/
def State.takeCell (s : State) (c : Fin 32) (entry : Nat) (network : List Byte) : State :=
  let s := if wellFormed network then s
    else s.mapChan c fun ch => { ch with counts := { ch.counts with malformed := sat ch.counts.malformed } }
  match entryPts ((s.chan c).pidOf .video) network with
  | none => s.produce c entry network none
  | some n =>
    let s := s.mapChan c fun ch => { ch with netPts := some n }
    (s.entryChecks c n).produce c entry network (some n)

/-- The channel's first ready read is taken, unless a read is in hand (R44, R45). -/
def State.takeRead (s : State) (c : Fin 32) : State :=
  match (s.chan c).inHand, (s.chan c).ready with
  | none, r :: rest =>
    let s := s.mapChan c fun ch => { ch with ready := rest }
    match r.answer with
    | .error => s.answer r.entry .error
    | .ok network =>
      if (s.chan c).enabled then s.takeCell c r.entry network else s.answerCell r.entry network
  | _, _ => s

/-- TAKE_READ. -/
def execTakeRead (channel : Nat) (s : State) : Host.Outcome State Fault Refusal :=
  .next (if h : channel < 32 then s.takeRead ⟨channel, h⟩ else s)

/-! ## Source cells (R50, R51, R117) -/

/-- Answer the read in hand with the rewritten source cell, or with a null cell (R50, R51). -/
def State.answerSource (s : State) (c : Fin 32) (r : ReadInHand) (role : Option Role) (cell : List Byte) : State :=
  match (s.chan c).emitSource role cell r.cell with
  | some out => (s.mapChan c fun _ => out.1).answerCell r.entry out.2
  | none => s.answerNull c r.entry r.cell

/-- The role of a PID in a clip's stream map (R57). -/
def Clip.roleOf (x : Clip) (pid : Nat) : Option Role :=
  (x.map.find? fun e => e.1 == pid).map Prod.snd

/-- A clip cell arrives for the read in hand (R44, R50, R117). -/
def State.clipCell (s : State) (c : Fin 32) (n : Fin 64) (r : ReadInHand) (a : Answer) : State :=
  let s := s.mapChan c fun ch => { ch with inHand := none }
  if r.orphaned then s.answerNull c r.entry r.cell
  else match a with
    | .error => ((s.answerNull c r.entry r.cell).abandon c .memoryError .memoryError).mapChan c Channel.toReturnWait
    | .ok cell => s.answerSource c r ((s.clip n).roleOf (cellPid cell)) cell

/-- A feed cell arrives for the read in hand (R44, R51). -/
def State.feedCell (s : State) (c : Fin 32) (f : Fin 6) (r : ReadInHand) (a : Answer) : State :=
  let s := s.mapChan c fun ch => { ch with inHand := none }
  if r.orphaned then s.answerNull c r.entry r.cell
  else match a with
    | .error =>
      (s.mapChan c fun ch => { ch with counts := { ch.counts with readErrors := sat ch.counts.readErrors } }).answerNull c
        r.entry r.cell
    | .ok cell => s.answerSource c r (roleOfPid (s.feed f).roles (cellPid cell)) cell

/-- The read in hand of channel `c`, when it waits for the source read `txn`. -/
def State.waitsFor (s : State) (c : Fin 32) (txn : Nat) : Option ReadInHand :=
  (s.chan c).inHand.filter fun r => r.source == txn

/-- CLIP_CELL_ARRIVAL. -/
def execClipCellArrival (txn : Nat) (answer : Answer) (s : State) : Host.Outcome State Fault Refusal :=
  .next (s.onResponse txn fun t s =>
    match t.owner with
    | .sourceRead c (.clip n) =>
      let s := s.completeTxn txn
      match s.waitsFor c txn with
      | some r => s.clipCell c n r answer
      | none => s
    | _ => s)

/-- FEED_CELL_ARRIVAL. -/
def execFeedCellArrival (txn : Nat) (answer : Answer) (s : State) : Host.Outcome State Fault Refusal :=
  .next (s.onResponse txn fun t s =>
    match t.owner with
    | .sourceRead c (.feed f) =>
      let s := s.completeTxn txn
      match s.waitsFor c txn with
      | some r => s.feedCell c f r answer
      | none => s
    | _ => s)

end Sys2Proof.Machine
end

