-- ==== Sys2Proof/Machine/Clips.lean ====
section
/-! DEFINITION. The clip store (chapter 4): CLIP_LOAD, the verification pass, CLIP_FREE, BIND and UNBIND. -/

namespace Sys2Proof.Machine

/-! ## Ranges and protection (R63, R64) -/

/-- The end of a clip's range, one past its last byte. -/
def Clip.stop (x : Clip) : Nat :=
  x.base + 192 * x.cells

/-- The clip's range is protected: the clip is QUEUED, VERIFYING or READY (R63). -/
def Clip.guarded (x : Clip) : Bool :=
  x.state == .queued || x.state == .verifying || x.state == .ready

/-- Two ranges share a byte. -/
def rangesMeet (a aLen b bLen : Nat) : Bool :=
  decide (a < b + bLen) && decide (b < a + aLen) && decide (0 < aLen) && decide (0 < bLen)

/-! ## The verify queue (R66, R67) -/

/-- The VERIFYING clip, if any. -/
def State.verifying (s : State) : Option (Fin 64) :=
  (List.finRange 64).find? fun n => (s.clip n).state == .verifying

/-- The transaction is a verification read of some pass (R67). -/
def Owner.verifies : Owner → Bool
  | .verify _ => true
  | _ => false

/-- A verification read is outstanding, of the current pass or of one that CLIP_FREE ended (R67). -/
def Bus.verifying (b : Bus) : Bool :=
  b.txns.any fun t => t.owner.verifies

/-- Request the read of the cell at clip `n`'s cursor, in class 4. At most one verification read is outstanding at a time (R67):
behind the read of a pass that CLIP_FREE ended the request waits until that read has completed (DEDUCED, log entry 31). -/
def State.requestVerify (s : State) (n : Fin 64) : State :=
  if s.bus.verifying then s
  else { s with
    bus := s.bus.read 4 ((s.clip n).base + 192 * (s.clip n).cursor) 192 (.verify n)
    verifyRead := some s.bus.next }

/-- The request of a pass whose read waited for another pass's, now that none may be outstanding (R67, log entry 31). -/
def State.resumeVerify (s : State) : State :=
  match s.verifying with
  | some n => s.requestVerify n
  | none => s

/-- When no clip is VERIFYING, the head of the verify queue begins its pass at cell 0 (R66). -/
def State.beginPass (s : State) : State :=
  match s.verifying, s.verifyQueue with
  | none, n :: rest =>
    { s with verifyQueue := rest }.mapClip n (fun x => { x with state := .verifying, cursor := 0 }) |>.requestVerify n
  | _, _ => s

/-! ## CLIP_LOAD (R64, R65) -/

/-- A role by its code in a map entry (section 11.3). -/
def Role.ofCode : Nat → Option Role
  | 0 => some .video | 1 => some .audio1 | 2 => some .audio2 | 3 => some .audio3 | 4 => some .data1 | 5 => some .data2
  | _ => none

/-- No value stands twice in a list. -/
def distinct {α : Type} [BEq α] : List α → Bool
  | [] => true
  | x :: xs => !xs.contains x && distinct xs

/-- The stream map of a CLIP_LOAD, when it passes its test (R64). -/
def streamMapOf (f : ClipLoadFields) : Option (List (Nat × Role)) :=
  let used := f.entries.take f.mapCount
  match used.mapM fun e => (Role.ofCode e.2).map fun r => (e.1, r) with
  | none => none
  | some m =>
    if 1 ≤ f.mapCount && f.mapCount ≤ 8 && used.all (fun e => decide (e.1 ≤ 8190)) && distinct (m.map Prod.fst) &&
        distinct (m.map Prod.snd) && m.any (fun e => e.2 == .video)
    then some m
    else none

/-- The clip area of the region map. -/
def State.clipArea (s : State) : Span :=
  match s.map with
  | some m => m.clipArea
  | none => ⟨0, 0⟩

/-- The range of a CLIP_LOAD shares a byte with another clip that is not FREE (R64). -/
def State.clipOverlap (s : State) (n : Fin 64) (base cells : Nat) : Bool :=
  (List.finRange 64).any fun k =>
    k != n && (s.clip k).state != .free && rangesMeet base (192 * cells) (s.clip k).base (192 * (s.clip k).cells)

/-- The changes of an accepted CLIP_LOAD to the clip's record (R65). -/
def Clip.load (x : Clip) (base cells crc : Nat) (m : List (Nat × Role)) (t : Ticket) : Clip :=
  { x with
    state := .queued
    base := base
    cells := cells
    expectedCrc := BitVec.ofNat 32 crc
    map := m
    p0 := none
    period := none
    pMax := none
    duration := none
    firstPcr := none
    failure := none
    cursor := 0
    crc := 0xFFFFFFFF#32
    owed := some t }

/-- The tests of R64 in their order: the outcome of the first that holds, or the stream map of an accepted CLIP_LOAD. -/
def State.clipLoadTest (s : State) (n : Fin 64) (f : ClipLoadFields) : Except DirectiveResult (List (Nat × Role)) :=
  let area := s.clipArea
  if (s.clip n).guarded then .error .refusedState
  else if f.cells = 0 ∨ 1048576 < f.cells then .error .refusedRange
  else if f.base % 64 ≠ 0 ∨ f.base < area.base ∨ area.base + area.size < f.base + 192 * f.cells then .error .refusedRange
  else match streamMapOf f with
    | none => .error .refusedRange
    | some m => if s.clipOverlap n f.base f.cells then .error .refusedState else .ok m

/-- An accepted CLIP_LOAD (R65, R66). -/
def State.acceptLoad (s : State) (n : Fin 64) (t : Ticket) (f : ClipLoadFields) (m : List (Nat × Role)) : State :=
  let s := s.mapClip n fun x => x.load f.base f.cells f.crc m t
  { s with verifyQueue := s.verifyQueue ++ [n] }.beginPass

/-- CLIP_LOAD (R64, R65). -/
def State.clipLoad (s : State) (t : Ticket) (f : ClipLoadFields) : State :=
  if h : f.clip < 64 then
    match s.clipLoadTest ⟨f.clip, h⟩ f with
    | .error r => s.respond t.seq 2 r 0 t.slot
    | .ok m => s.acceptLoad ⟨f.clip, h⟩ t f m
  else s.respond t.seq 2 .refusedRange 0 t.slot

def execClipLoad (seq slot : Nat) (fields : ClipLoadFields) (s : State) : Host.Outcome State Fault Refusal :=
  .next (s.takeDirective (.clipLoad seq slot fields) fun s => s.clipLoad ⟨seq, slot⟩ fields)

/-! ## The verification pass (R67 to R73) -/

def ClipFailure.code : ClipFailure → Nat
  | .badCell => 1 | .noEntry => 2 | .timing => 3 | .noClock => 4 | .crcMismatch => 5 | .memoryError => 6

/-- What the examination of a cell or the final checks say: the pass goes on, fails with a reason and a second value, or
succeeds. -/
inductive PassStep where
  | on (x : Clip)
  | fail (x : Clip) (why : ClipFailure) (second : Nat)
  | pass (x : Clip)
  deriving DecidableEq, Repr

/-- The clip's VIDEO PID (section 4.1). -/
def Clip.videoPid (x : Clip) : Option Nat :=
  (x.map.find? fun e => e.2 == .video).map Prod.fst

/-- A later video PTS (R69): its distance from P0 is judged, the second PTS gives the period, and the furthest is kept. -/
def Clip.laterPts (x : Clip) (p0 p : Pts) : PassStep :=
  let d := forward p p0
  if 2 ^ 31 ≤ d then .fail x .timing d
  else
    let bad := x.period.isNone && (d == 0 || decide (9000 < d))
    let x := { x with period := x.period.or (some d) }
    if bad then .fail x .timing d
    else .on (if forward (x.pMax.getD p0) p0 < d then { x with pMax := some p } else x)

/-- The timing examination of a well-formed cell on the VIDEO PID (R69). -/
def Clip.examineVideo (x : Clip) (cell : List Byte) : PassStep :=
  match x.p0 with
  | none =>
    match entryPts x.videoPid cell with
    | some p => .on { x with p0 := some p, pMax := some p }
    | none => .fail x .noEntry 0
  | some p0 =>
    match readPts cell with
    | some p => x.laterPts p0 p
    | none => .on x

/-- The first readable PCR on the VIDEO PID is kept (R70). -/
def Clip.notePcr (x : Clip) (cell : List Byte) : Clip :=
  { x with firstPcr := x.firstPcr.or (readPcr cell) }

/-- The examination of one cell (R68 to R70). -/
def Clip.examine (x : Clip) (cell : List Byte) : PassStep :=
  if !wellFormed cell then .fail x .badCell 0
  else
    let x := { x with crc := crc32Fold x.crc (slice cell 4 188) }
    if x.videoPid = some (cellPid cell) then
      match x.examineVideo cell with
      | .on y => .on (y.notePcr cell)
      | r => r
    else .on x

/-- The final checks after the last cell (R71). -/
def Clip.finalChecks (x : Clip) : PassStep :=
  match x.p0, x.period, x.pMax with
  | none, _, _ => .fail x .noEntry 0
  | some _, none, _ => .fail x .timing 0
  | some p0, some f, pMax =>
    if x.firstPcr.isNone then .fail x .noClock 0
    else if x.crc ≠ x.expectedCrc then .fail x .crcMismatch x.crc.toNat
    else .pass { x with duration := some (forward (pMax.getD p0) p0 + f) }

/-- The examination of the cell at the cursor, with the final checks after the last (R67, R71). -/
def Clip.step (x : Clip) (a : Answer) : PassStep :=
  match a with
  | .error => .fail x .memoryError 0
  | .ok cell =>
    match x.examine cell with
    | .on y => if y.cursor + 1 < y.cells then .on { y with cursor := y.cursor + 1 } else y.finalChecks
    | r => r

/-- The record of a clip whose pass has failed (R73). -/
def Clip.failWith (x : Clip) (why : ClipFailure) : Clip :=
  { x with
    state := .failed
    failure := some why
    p0 := none
    period := none
    pMax := none
    duration := none
    firstPcr := none
    owed := none }

/-- Answer the owed CLIP_LOAD, if one is owed (R73, R75). -/
def State.answerLoad (s : State) (owed : Option Ticket) (r : DirectiveResult) (detail : Nat) : State :=
  match owed with
  | some t => s.respond t.seq 2 r detail t.slot
  | none => s

/-- The end of a pass (R73): state, record, response, next pass. -/
def State.endPass (s : State) (n : Fin 64) : PassStep → State
  | .on x => (s.mapClip n fun _ => x).requestVerify n
  | .fail x why second =>
    let s := s.mapClip n fun _ => x.failWith why
    let s := s.record ⟨.clipFailed, 255, why.code, n, x.cursor, second⟩
    (s.answerLoad x.owed .failed why.code).beginPass
  | .pass x =>
    let s := s.mapClip n fun _ => { x with state := .ready, cursor := x.cursor + 1, owed := none }
    let s := s.record ⟨.clipReady, 255, 0, n, x.duration.getD 0, (x.p0.getD 0).toNat⟩
    (s.answerLoad x.owed .done 0).beginPass

/-- VERIFY_READ_COMPLETE: the response of the current pass is examined. One of a pass that CLIP_FREE ended is discarded, and the
read that waited for it is requested (R67, log entry 31). -/
def execVerifyReadComplete (txn : Nat) (answer : Answer) (s : State) : Host.Outcome State Fault Refusal :=
  .next (s.onResponse txn fun t s =>
    match t.owner with
    | .verify n =>
      let s := s.completeTxn txn
      if s.verifyRead = some txn then { s with verifyRead := none }.endPass n ((s.clip n).step answer)
      else s.resumeVerify
    | _ => s)

/-! ## CLIP_FREE (R74 to R76) -/

/-- Detail codes of REFUSED_IN_USE (R74): PLAYING, POD, BOUND, QUEUED_EVENT; `none` when nothing names the clip. -/
def State.clipUse (s : State) (n : Fin 64) : Option Nat :=
  if 0 < (s.clip n).plays then some 1
  else if (List.finRange 32).any fun c => (s.chan c).state == .insert && (s.chan c).avail.any fun a => a.pod.contains n then
    some 2
  else if (List.finRange 32).any fun c => (s.bindingTable c).any fun b => b.any fun b => b.pod.contains n then some 3
  else if (List.finRange 32).any fun c => (s.chan c).queue.any fun e => e.pod.contains n then some 4
  else none

/-- An accepted CLIP_FREE of a QUEUED or VERIFYING clip stops its work and cancels its load (R75). The next clip begins its pass at
once, but while the ended pass's read is outstanding it requests none of its own (R67; DEDUCED, log entry 31). -/
def State.cancelLoad (s : State) (n : Fin 64) (t : Ticket) : State :=
  let x := s.clip n
  let s := { s with
    verifyQueue := s.verifyQueue.filter (· != n)
    verifyRead := if x.state = ClipState.verifying then none else s.verifyRead }
  let s := s.answerLoad x.owed .cancelled 0
  let s := s.mapClip n fun _ => Clip.reset
  (s.respond t.seq 3 .done 0 t.slot).beginPass

/-- CLIP_FREE (R74 to R76). -/
def State.clipFree (s : State) (t : Ticket) (clip : Nat) : State :=
  if h : clip < 64 then
    let n : Fin 64 := ⟨clip, h⟩
    if (s.clip n).state = .free then s.respond t.seq 3 .refusedState 0 t.slot
    else match s.clipUse n with
      | some detail => s.respond t.seq 3 .refusedInUse detail t.slot
      | none =>
        if (s.clip n).state = .queued ∨ (s.clip n).state = .verifying then s.cancelLoad n t
        else (s.mapClip n fun _ => Clip.reset).respond t.seq 3 .done 0 t.slot
  else s.respond t.seq 3 .refusedRange 0 t.slot

def execClipFree (seq slot clip : Nat) (s : State) : Host.Outcome State Fault Refusal :=
  .next (s.takeDirective (.clipFree seq slot clip) fun s => s.clipFree ⟨seq, slot⟩ clip)

/-! ## BIND and UNBIND (R79, R80) -/

/-- A key field: 0-255, or FFFFh for ANY; anything else is out of range (R79, section 11.3). -/
def keyOf (k : Nat) : Option (Option Nat) :=
  if k = 0xFFFF then some none else if k ≤ 255 then some (some k) else none

/-- The slot of the binding with a key. -/
def slotOfKey (t : Vector (Option Binding) 8) (key : Option Nat) : Option (Fin 8) :=
  (List.finRange 8).find? fun i => t[i].any fun b => b.key == key

/-- An empty slot, the lowest-numbered (log entry 18). -/
def emptySlot (t : Vector (Option Binding) 8) : Option (Fin 8) :=
  (List.finRange 8).find? fun i => t[i].isNone

/-- BIND (R79). -/
def State.bind (s : State) (t : Ticket) (f : BindFields) : State :=
  let named := f.clips.take f.podLength
  if h : f.channel < 32 then
    let c : Fin 32 := ⟨f.channel, h⟩
    match keyOf f.key with
    | none => s.respond t.seq 4 .refusedRange 0 t.slot
    | some key =>
      if f.podLength = 0 ∨ 4 < f.podLength ∨ named.any (fun n => decide (63 < n)) then
        s.respond t.seq 4 .refusedRange 0 t.slot
      else
        let pod := named.map fun n => Fin.ofNat 64 n
        if pod.any (fun n => (s.clip n).state != .ready) then s.respond t.seq 4 .refusedState 0 t.slot
        else
          let table := s.bindingTable c
          match (slotOfKey table key).or (emptySlot table) with
          | some i => (s.setBindings c (table.set i (some ⟨key, f.uses, pod⟩))).respond t.seq 4 .done 0 t.slot
          | none => s.respond t.seq 4 .refusedFull 0 t.slot
  else s.respond t.seq 4 .refusedRange 0 t.slot

def execBind (seq slot : Nat) (fields : BindFields) (s : State) : Host.Outcome State Fault Refusal :=
  .next (s.takeDirective (.bind seq slot fields) fun s => s.bind ⟨seq, slot⟩ fields)

/-- UNBIND (R80). -/
def State.unbind (s : State) (t : Ticket) (channel key : Nat) : State :=
  if h : channel < 32 then
    let c : Fin 32 := ⟨channel, h⟩
    match keyOf key with
    | none => s.respond t.seq 5 .refusedRange 0 t.slot
    | some k =>
      match slotOfKey (s.bindingTable c) k with
      | none => s.respond t.seq 5 .refusedState 0 t.slot
      | some i => (s.setBindings c ((s.bindingTable c).set i none)).respond t.seq 5 .done 0 t.slot
  else s.respond t.seq 5 .refusedRange 0 t.slot

def execUnbind (seq slot channel key : Nat) (s : State) : Host.Outcome State Fault Refusal :=
  .next (s.takeDirective (.unbind seq slot channel key) fun s => s.unbind ⟨seq, slot⟩ channel key)

end Sys2Proof.Machine
end

