-- ==== Sys2Proof/Machine/Directives.lean ====
section
/-! DEFINITION. The directive unit (chapter 11): the watched words, the fetching of directives and their dispatch, and the
writing of responses. -/

namespace Sys2Proof.Machine

/-! ## Watched words (R186, R189) -/

/-- Change the directive unit. -/
def State.mapDir (s : State) (f : DirectiveUnit → DirectiveUnit) : State :=
  { s with dir := f s.dir }

/-- Count an ignored tail write (R9, R186). -/
def DirectiveUnit.ignoreTail (d : DirectiveUnit) : DirectiveUnit :=
  { d with ignoredTails := sat d.ignoredTails }

/-- Count an ignored head write (R9, R189). -/
def DirectiveUnit.ignoreHead (d : DirectiveUnit) : DirectiveUnit :=
  { d with ignoredHeads := sat d.ignoredHeads }

/-- A tail value is taken when it is 0-63 (R186). -/
def DirectiveUnit.takeTail (d : DirectiveUnit) (v : Nat) : DirectiveUnit :=
  if v < 64 then { d with tail := v } else d.ignoreTail

/-- How far a head value gives slots back (R189). -/
def DirectiveUnit.advance (d : DirectiveUnit) (v : Nat) : Nat :=
  if v = d.responseHead ∧ d.published = 64 then 64 else (v + 64 - d.responseHead) % 64

/-- A head value is taken when it is 0-63 and gives back no more than the published entries (R189). -/
def DirectiveUnit.takeHead (d : DirectiveUnit) (v : Nat) : DirectiveUnit :=
  if v < 64 ∧ d.advance v ≤ d.published then
    { d with
      responseHead := v
      unconsumed := d.unconsumed - d.advance v
      published := d.published - d.advance v }
  else d.ignoreHead

/-! ## Fetching (R186) -/

/-- The directive ring's base. -/
def State.directiveBase (s : State) : Nat :=
  match s.map with
  | some m => m.directiveBase
  | none => 0

/-- The unit may fetch: head differs from tail, U + Q is below 64, no fetch is outstanding (R186), and the directive last
dispatched has been taken by its block (log entry 8). -/
def State.mayFetch (s : State) : Bool :=
  s.boot == .running && s.dir.head != s.dir.tail && decide (s.dir.unconsumed + s.dir.owed < 64) && !s.dir.fetching &&
    s.dir.dispatched.isNone

/-- DIRECTIVE_FETCH: Q rises, and a 64-byte read of the slot at the head is requested in class 3 (R186). -/
def execDirectiveFetch (s : State) : Host.Outcome State Fault Refusal :=
  .next (if s.mayFetch then
      { s with
        dir := { s.dir with owed := s.dir.owed + 1, fetching := true }
        bus := s.bus.read 3 (s.directiveBase + 64 * s.dir.head) 64 (.directiveFetch s.dir.head) }
    else s)

/-! ## Dispatch (R187) -/

/-- A fetch has completed: the head moves on and the next fetch may be requested (R186). -/
def DirectiveUnit.fetched (d : DirectiveUnit) : DirectiveUnit :=
  { d with head := (d.head + 1) % 64, fetching := false }

/-- The dispatch of a completed fetch (R187). -/
def State.dispatch (s : State) (slot : Nat) (a : Answer) : State :=
  match a with
  | .error => (s.mapDir fun d => { d with fetchErrors := sat d.fetchErrors }).respond 0xFFFF 0xFF .fetchError 0 slot
  | .ok r =>
    match parseDirective r slot with
    | some c => s.mapDir fun d => { d with dispatched := some c }
    | none => s.respond (recordSeq r) (recordKind r) .unknownKind 0 slot

/-- FETCH_COMPLETE (R186, R187). -/
def execFetchComplete (txn : Nat) (answer : Answer) (s : State) : Host.Outcome State Fault Refusal :=
  .next (s.onResponse txn fun t s =>
    match t.owner with
    | .directiveFetch slot => ((s.completeTxn txn).mapDir DirectiveUnit.fetched).dispatch slot answer
    | _ => s)

/-! ## Responses (R188) -/

/-- An ERROR on a response write is counted, and the steps continue as though it had completed OK (R188). -/
def State.countWriteError (s : State) (a : Answer) : State :=
  if a = .error then s.mapDir fun d => { d with writeErrors := sat d.writeErrors } else s

/-- Step 3 of R188: the response-tail word write, carrying the tail as it stands. -/
def State.writeTailWord (s : State) : State :=
  { s with bus := s.bus.write (s.responseBase + 1040) (leBytes 4 s.dir.responseTail) .responseTail }

/-- RESPONSE_ENTRY_WRITE_COMPLETE (R188, step 3). -/
def execResponseEntryWriteComplete (txn : Nat) (answer : Answer) (s : State) : Host.Outcome State Fault Refusal :=
  .next (s.onResponse txn fun t s =>
    match t.owner with
    | .responseEntry => ((s.completeTxn txn).countWriteError answer).writeTailWord
    | _ => s)

/-- RESPONSE_TAIL_WRITE_COMPLETE (R188, step 4). -/
def execResponseTailWriteComplete (txn : Nat) (answer : Answer) (s : State) : Host.Outcome State Fault Refusal :=
  .next (s.onResponse txn fun t s =>
    match t.owner with
    | .responseTail => ((s.completeTxn txn).countWriteError answer).mapDir fun d => { d with published := d.published + 1 }
    | _ => s)

end Sys2Proof.Machine
end

