-- ==== Sys2Proof/Machine/Path.lean ====
section
/-! DEFINITION. The path unit (chapter 1): classification of upstream transactions, the downstream arbiter with the refusal of
writes, and the completion of upstream transactions. -/

namespace Sys2Proof.Machine

/-! ## What a transaction touches (section 1.1) -/

/-- A write at `addr` with these enable flags touches a byte of `size` bytes at `base`. -/
def touches (addr : Nat) (enables : List Bool) (base size : Nat) : Bool :=
  (slice enables (base - addr) (base + size - max addr base)).any id

/-- How a write meets the 32-bit word at `word` (R5). -/
def wordTouch (addr : Nat) (enables : List Bool) (word : Nat) : WordTouch :=
  if addr ≤ word ∧ slice enables (word - addr) 4 = [true, true, true, true] then .whole
  else if touches addr enables word 4 then .part
  else .none

/-- The directive tail word's address. -/
def RegionMap.tailWord (m : RegionMap) : Nat :=
  m.directiveBase + 4096

/-- The response head word's address. -/
def RegionMap.headWord (m : RegionMap) : Nat :=
  m.responseBase + 1024

/-- The rings of the map. -/
def RegionMap.rings (m : RegionMap) : List Ring :=
  m.channelRings.toList.filterMap id ++ m.feedRings.toList

/-- The fixed protected ranges (R4). -/
def RegionMap.fixedProtected (m : RegionMap) : List Span :=
  [m.logRegion, m.statusArea, ⟨m.responseBase, 1024⟩, ⟨m.responseBase + 1040, 4⟩]

/-! ## Acceptance (R1, R5, R10, R11) -/

/-- Nothing special: a pass. -/
def Treatment.pass : Treatment :=
  ⟨false, false, .none, .none, none⟩

/-- The treatment of a write (R5). -/
def RegionMap.writeTreatment (m : RegionMap) (addr : Nat) (enables : List Bool) : Treatment where
  protectCheck := (m.clipArea :: m.fixedProtected).any fun r => touches addr enables r.base r.size
  ring := m.rings.any fun r => touches addr enables r.base (192 * r.cells)
  tailWord := wordTouch addr enables m.tailWord
  headWord := wordTouch addr enables m.headWord
  eligible := none

/-- The treatment of a write as it is accepted: a pass while the part is transparent (R5, R15). -/
def State.writeTreatment (s : State) (addr : Nat) (enables : List Bool) : Treatment :=
  match s.map with
  | some m => m.writeTreatment addr enables
  | none => Treatment.pass

/-- The address is the base of the ring plus 192 × i, i below the cell count (R10). -/
def Ring.cellBase (r : Ring) (addr : Nat) : Bool :=
  decide (r.base ≤ addr) && decide ((addr - r.base) % 192 = 0) && decide ((addr - r.base) / 192 < r.cells)

/-- The channel a read is eligible for, if any (R10). -/
def State.eligibleFor (s : State) (addr len : Nat) : Option (Fin 32) :=
  (List.finRange 32).find? fun c =>
    decide (len = 192) && (s.channelRing c).any (fun r => r.cellBase addr) && (s.chan c).enabled

/-- A passed read counts one misaligned read in each channel it meets that is neither OFF nor in NETWORK (R10). -/
def State.countMisaligned (s : State) (addr len : Nat) : State :=
  (List.finRange 32).foldl (fun s c =>
    if (s.chan c).state != .off && (s.chan c).state != .network &&
        (s.channelRing c).any (fun r => rangesMeet addr len r.base (192 * r.cells))
    then s.mapChan c fun ch => { ch with counts := { ch.counts with misaligned := sat ch.counts.misaligned } }
    else s) s

/-- Put an accepted transaction in the in-flight list and ask the arbiter for it (R1, R13). -/
def State.accept (s : State) (write : Bool) (tag addr len : Nat) (data : List Byte) (enables : List Bool) (t : Treatment)
    (owner : Owner) : State :=
  { s with
    entries := s.entries ++ [⟨s.bus.next, write, tag, addr, len, t⟩]
    bus := s.bus.request 1 write addr len data enables owner }

/-- The in-flight list has a free entry (R1). -/
def State.hasRoom (s : State) : Bool :=
  decide (s.entries.length < 64)

/-- UPSTREAM_WRITE (R1, R5). While the list is full the transaction waits at the link (log entry 7). -/
def execUpstreamWrite (tag addr len : Nat) (data : List Byte) (enables : List Bool) (s : State) :
    Host.Outcome State Fault Refusal :=
  .next (if s.hasRoom then s.accept true tag addr len data enables (s.writeTreatment addr enables) .upstream else s)

/-- UPSTREAM_READ (R1, R10, R11). -/
def execUpstreamRead (tag addr len : Nat) (s : State) : Host.Outcome State Fault Refusal :=
  .next (if s.hasRoom then
      match s.eligibleFor addr len with
      | some c => s.accept false tag addr len [] [] { Treatment.pass with eligible := some c } .networkFetch
      | none => (s.countMisaligned addr len).accept false tag addr len [] [] Treatment.pass .upstream
    else s)

/-! ## The arbiter (R13, R14) -/

/-- Two downstream transactions overlap (R13). -/
def Txn.overlaps (a b : Txn) : Bool :=
  (a.write || b.write) && rangesMeet a.addr a.len b.addr b.len

/-- A transaction is a candidate: not issued, and no earlier-requested transaction that overlaps it is still to complete
(R13). -/
def Bus.candidate (b : Bus) (t : Txn) : Bool :=
  !t.issued && !(b.txns.any fun u => decide (u.time < t.time) && u.overlaps t)

/-- The candidates of the highest class, and of those the ones requested earliest (R14). -/
def Bus.firstCandidates (b : Bus) : List Txn :=
  let c := b.txns.filter b.candidate
  let c := c.filter fun t => c.all fun u => decide (t.cls ≤ u.cls)
  c.filter fun t => c.all fun u => decide (t.time ≤ u.time)

/-- The transaction the arbiter turns to; of several requested together either may be granted first, a free choice (R14, log
entry 10). -/
def Bus.choose (b : Bus) : Option Txn × Bus :=
  match b.firstCandidates with
  | [] => (none, b)
  | [t] => (some t, b)
  | t :: u :: rest =>
    let l := t :: u :: rest
    (some (l.getD (Config.grantChoice b.choices % l.length) t), { b with choices := b.choices + 1 })

/-- Issue a transaction downstream. -/
def Bus.issue (b : Bus) (id : Nat) : Bus :=
  { b with txns := b.txns.map fun t => if t.id = id then { t with issued := true } else t }

/-! ## Protection (R4, R6, R7, R63, R184) -/

/-- The entry of an upstream transaction. -/
def State.entry (s : State) (id : Nat) : Option Entry :=
  s.entries.find? fun e => e.id == id

/-- A byte the write touches is protected as the ranges stand (R4, R63). -/
def State.touchesProtected (s : State) (t : Txn) : Bool :=
  (match s.map with
    | some m => m.fixedProtected.any fun r => touches t.addr t.enables r.base r.size
    | none => false) ||
    (List.finRange 64).any fun n => (s.clip n).guarded && touches t.addr t.enables (s.clip n).base (192 * (s.clip n).cells)

/-- The write is under protect-check and touches a protected byte: it is refused at its grant (R6). -/
def State.refuses (s : State) (t : Txn) : Bool :=
  t.owner == .upstream && (s.entry t.id).any (fun e => e.treatment.protectCheck) && s.touchesProtected t

/-- WRITE_REFUSED, when the count stood at 0 (R6, R184). -/
def State.recordRefusal (s : State) (t : Txn) : State :=
  if s.refusedWrites = 0 then s.record ⟨.writeRefused, 255, 0, t.addr % 2 ^ 32, t.addr / 2 ^ 32, t.len⟩ else s

/-- A write is refused whole (R6, R7). -/
def State.refuseWrite (s : State) (t : Txn) : State :=
  let s := ((s.completeTxn t.id).answer t.id .refused).recordRefusal t
  { s with refusedWrites := sat s.refusedWrites }

/-- One grant: the first candidate that is not refused is issued (R6, R14). The write of the WRITE_REFUSED record, which a refusal
asks for in class 2, competes in the rest of the same grant, ahead of waiting candidates of classes 3 and 4 (DESIGN CHOICE, log
entry 29). The count bounds the refusals by the entries. -/
def State.grant : Nat → State → State
  | 0, s => s
  | k + 1, s =>
    let c := s.bus.choose
    let s := { s with bus := c.2 }
    match c.1 with
    | none => s
    | some t => if s.refuses t then State.grant k (s.refuseWrite t) else { s with bus := s.bus.issue t.id }

/-- DOWNSTREAM_GRANT. -/
def execDownstreamGrant (s : State) : Host.Outcome State Fault Refusal :=
  .next (State.grant (s.entries.length + 1) s)

/-! ## Completion of upstream transactions (R8, R9, R11, R12) -/

/-- The value a write gives the 32-bit word at `word`. -/
def Txn.wordValue (t : Txn) (word : Nat) : Nat :=
  leField t.data (word - t.addr) 4

/-- What a write that completed OK says of the directive tail word (R9). -/
def State.handTail (s : State) (m : RegionMap) (t : Txn) : WordTouch → State
  | .whole => s.mapDir fun d => d.takeTail (t.wordValue m.tailWord)
  | .part => s.mapDir DirectiveUnit.ignoreTail
  | .none => s

/-- What a write that completed OK says of the response head word (R9). -/
def State.handHead (s : State) (m : RegionMap) (t : Txn) : WordTouch → State
  | .whole => s.mapDir fun d => d.takeHead (t.wordValue m.headWord)
  | .part => s.mapDir DirectiveUnit.ignoreHead
  | .none => s

/-- What the other treatments of a forwarded write require when memory answers it OK (R6, R8, R9). -/
def State.treatWrite (s : State) (t : Txn) (e : Entry) : State :=
  match s.map with
  | none => s
  | some m =>
    let s := if e.treatment.ring then s.reportRingWrite t.addr t.data t.enables else s
    (s.handTail m t e.treatment.tailWord).handHead m t e.treatment.headWord

/-- An upstream transaction completes: its treatments are carried out when it is OK, and then its response is returned
upstream (R8, R9, R12, log entry 21). -/
def State.finishUpstream (s : State) (t : Txn) (e : Entry) (a : Answer) : State :=
  let s := s.completeTxn t.id
  let s := if a = .error then s else s.treatWrite t e
  s.answer t.id (UpResult.ofAnswer a)

/-- A completed network fetch makes its read ready to be taken (R11, R44). -/
def State.fetchDone (s : State) (t : Txn) (e : Entry) (a : Answer) : State :=
  let s := s.completeTxn t.id
  match e.treatment.eligible with
  | some c => s.mapChan c fun ch => { ch with ready := ch.ready ++ [⟨t.id, a⟩] }
  | none => s

/-- A response routed to the entry of a forwarded write whose treatment passes `f`, memory having answered it OK. -/
def State.onWriteDone (s : State) (txn : Nat) (f : Treatment → Bool) : State :=
  s.onResponse txn fun t s =>
    match t.owner, s.entry txn with
    | .upstream, some e => if e.write && f e.treatment then s.finishUpstream t e (.ok []) else s
    | _, _ => s

/-- PASSED_TRANSACTION_COMPLETE: of an upstream transaction, or of the network fetch made for it (R2, R11, R12). -/
def execPassedTransactionComplete (txn : Nat) (answer : Answer) (s : State) : Host.Outcome State Fault Refusal :=
  .next (s.onResponse txn fun t s =>
    match t.owner, s.entry txn with
    | .upstream, some e => s.finishUpstream t e answer
    | .networkFetch, some e => s.fetchDone t e answer
    | _, _ => s)

/-- RING_WRITE_COMPLETE: a ring write is answered OK (R8). -/
def execRingWriteComplete (txn : Nat) (s : State) : Host.Outcome State Fault Refusal :=
  .next (s.onWriteDone txn fun t => t.ring)

/-- DIRECTIVE_TAIL_WRITE: a watched write of the directive tail word is answered OK (R9, R186). -/
def execDirectiveTailWrite (txn : Nat) (s : State) : Host.Outcome State Fault Refusal :=
  .next (s.onWriteDone txn fun t => t.tailWord == .whole)

/-- RESPONSE_HEAD_WRITE: a watched write of the response head word is answered OK (R9, R189). -/
def execResponseHeadWrite (txn : Nat) (s : State) : Host.Outcome State Fault Refusal :=
  .next (s.onWriteDone txn fun t => t.headWord == .whole)

/-- PARTIAL_WATCHED_WRITE: a write of part of a watched word is answered OK (R9). -/
def execPartialWatchedWrite (txn : Nat) (s : State) : Host.Outcome State Fault Refusal :=
  .next (s.onWriteDone txn fun t => t.tailWord == .part || t.headWord == .part)

end Sys2Proof.Machine
end

