-- ==== Sys2Proof/Machine/Boot.lean ====
section
/-! DEFINITION. Start-up and reset (sections 11.6 and 1.7): the boot record and its tests, the boot, POWER_ON, RESET_ARRIVAL and
RESET_RELEASE. -/

namespace Sys2Proof.Machine

/-! ## The boot record (section 11.6) -/

/-- The descriptor of a channel ring: eight bytes at 8 + 8 × c; no ring when the cell count is 0 (R3). -/
def bootChannelRing (r : List Byte) (c : Nat) : Option Ring :=
  let cells := leField r (8 + 8 * c + 5) 3
  if cells = 0 then none else some ⟨leField r (8 + 8 * c) 5, cells⟩

/-- The descriptor of a feed: twenty bytes at 264 + 20 × f. -/
def bootFeedRing (r : List Byte) (f : Nat) : Ring :=
  ⟨leField r (264 + 20 * f) 5, leField r (264 + 20 * f + 5) 3⟩

/-- The role map of a feed's descriptor. -/
def bootFeedRoles (r : List Byte) (f : Nat) : RoleMap :=
  roleMapOf (leFields r (264 + 20 * f + 8) 2 6)

/-- A base and a size of eight bytes each. -/
def bootSpan (r : List Byte) (off : Nat) : Span :=
  ⟨leField r off 8, leField r (off + 8) 8⟩

/-- The region map the record describes (R3). -/
def bootMap (r : List Byte) : RegionMap where
  channelRings := Vector.ofFn fun c : Fin 32 => bootChannelRing r c
  feedRings := Vector.ofFn fun f : Fin 6 => bootFeedRing r f
  clipArea := bootSpan r 384
  logRegion := bootSpan r 400
  directiveBase := leField r 416 8
  responseBase := leField r 424 8
  statusArea := bootSpan r 432

/-- The zone count. -/
def bootZoneCount (r : List Byte) : Nat :=
  leField r 448 1

/-- The zone codes in use. -/
def bootZones (r : List Byte) : List Nat :=
  (leFields r 450 2 4).take (bootZoneCount r)

/-- The log reserve, FFh for the default 10. -/
def bootReserve (r : List Byte) : Nat :=
  if leField r 463 1 = 255 then 10 else leField r 463 1

/-- What a record that passes its tests says. -/
def bootImage (r : List Byte) (mode : QueueMode) : BootImage where
  map := bootMap r
  feedRoles := Vector.ofFn fun f : Fin 6 => bootFeedRoles r f
  zones := bootZones r
  nominal := leField r 458 4
  mode := mode
  reserve := bootReserve r
  groups := Vector.ofFn fun g : Fin 8 => BitVec.ofNat 32 (leField r (464 + 4 * g.val) 4)

/-! ## The tests (R192, R3) -/

/-- Magic, length and CRC-32. -/
def bootFrameOk (r : List Byte) : Bool :=
  leField r 0 4 == 0x31364C42 && leField r 4 2 == 500 && (crc32 (r.take 496)).toNat == leField r 496 4

/-- A number in a range, both ends included. -/
def within (lo hi v : Nat) : Bool :=
  decide (lo ≤ v) && decide (v ≤ hi)

/-- The channel ring descriptors lie in their ranges. -/
def bootChannelsOk (r : List Byte) : Bool :=
  (List.range 32).all fun c =>
    leField r (8 + 8 * c) 5 % 64 == 0 &&
      (leField r (8 + 8 * c + 5) 3 == 0 || within 256 65536 (leField r (8 + 8 * c + 5) 3))

/-- The feed descriptors lie in their ranges, each with VIDEO and no PID for two roles (R33). -/
def bootFeedsOk (r : List Byte) : Bool :=
  (List.range 6).all fun f =>
    (bootFeedRing r f).base % 64 == 0 && within 256 65536 (bootFeedRing r f).cells && (bootFeedRoles r f).valid

/-- The region sizes and alignments of section 1.2. -/
def RegionMap.shapeOk (m : RegionMap) : Bool :=
  m.clipArea.base % 64 == 0 && m.clipArea.size % 64 == 0 && m.clipArea.size != 0 && m.logRegion.base % 4096 == 0 &&
    m.logRegion.size % 4096 == 0 && within 4096 16777216 m.logRegion.size && m.directiveBase % 64 == 0 &&
    m.responseBase % 64 == 0 && m.statusArea.base % 64 == 0 && m.statusArea.size % 64 == 0 && m.statusArea.size != 0

/-- The ranges of the map. The directive ring's slots and tail word, and the response ring's slots and head word, adjoin. -/
def RegionMap.ranges (m : RegionMap) : List Span :=
  m.rings.map (fun r => ⟨r.base, 192 * r.cells⟩) ++
    [m.clipArea, m.logRegion, ⟨m.directiveBase, 4100⟩, ⟨m.responseBase, 1028⟩, ⟨m.responseBase + 1040, 4⟩, m.statusArea]

/-- No two ranges of a list share a byte. -/
def rangesApart : List Span → Bool
  | [] => true
  | x :: xs => xs.all (fun y => !rangesMeet x.base x.size y.base y.size) && rangesApart xs

/-- Every range lies wholly below 2^40, and no two share a byte (R3). -/
def RegionMap.layoutOk (m : RegionMap) : Bool :=
  m.ranges.all (fun r => decide (r.base + r.size ≤ 2 ^ 40)) && rangesApart m.ranges

/-- The fields from the zone count on lie in their ranges. -/
def bootSettingsOk (r : List Byte) : Bool :=
  within 1 4 (bootZoneCount r) && (bootZones r).all (fun z => decide (z ≤ 0xFFFE)) && within 270 270000 (leField r 458 4) &&
    (decide (leField r 463 1 ≤ 64) || leField r 463 1 == 255)

/-- The image of a record that passes every test; `none` is a boot fault (R192). -/
def parseBoot (r : List Byte) : Option BootImage :=
  if bootFrameOk r && bootChannelsOk r && bootFeedsOk r && (bootMap r).shapeOk && (bootMap r).layoutOk && bootSettingsOk r
  then (QueueMode.ofCode (leField r 462 1)).map (bootImage r)
  else none

/-! ## The boot (R192, R193) -/

/-- A boot fault: FAULT is asserted, and the part stays transparent at its reset values (R192). -/
def State.bootFault (s : State) : State :=
  { s with boot := .faulted, faultLine := true, image := none }

/-- The reads of the two words are requested together, in class 3 (R193, step 1; log entry 10). -/
def Bus.requestWords (b : Bus) (m : RegionMap) : Bus :=
  { b with
    txns := b.txns ++ [⟨b.next, b.next, 3, false, m.tailWord, 4, [], [], .bootTail, false⟩,
      ⟨b.next + 1, b.next, 3, false, m.headWord, 4, [], [], .bootHead, false⟩]
    next := b.next + 2 }

/-- A record that passes is kept, and the two words are asked for (R193, step 1). -/
def State.readWords (s : State) (x : BootImage) : State :=
  { s with boot := .readingWords, image := some x, bus := s.bus.requestWords x.map }

/-- BOOT_RECORD_READ (R192). -/
def execBootRecordRead (record : List Byte) (s : State) : Host.Outcome State Fault Refusal :=
  .next (if s.boot = .readingRecord then
      match parseBoot record with
      | some x => s.readWords x
      | none => s.bootFault
    else s)

/-- The log writer at the end of a successful boot (R172). -/
def LogWriter.boot (l : LogWriter) (m : RegionMap) (reserve : Nat) : LogWriter :=
  { LogWriter.reset with
    base := m.logRegion.base
    size := m.logRegion.size
    floor := m.logRegion.size
    reserve := reserve
    run := l.run + 1 }

/-- Steps 2 and 3 of R193: the blocks take their boot values and transparency ends; the receiver begins reading (R137). -/
def State.takeBootValues (s : State) (x : BootImage) : State :=
  { s with
    boot := .running
    map := some x.map
    feeds := Vector.ofFn fun f : Fin 6 => { FeedTracker.reset with roles := x.feedRoles[f] }
    receiver := { s.receiver with zones := x.zones, nominal := x.nominal, readingFrom := some s.house }
    alerts := { s.alerts with groups := x.groups, mode := x.mode }
    log := s.log.boot x.map x.reserve }

/-- Step 4 of R193 for the tail word: a value of 64 or more is taken as 0 and counted. -/
def DirectiveUnit.bootTail (d : DirectiveUnit) (v : Nat) : DirectiveUnit :=
  if v < 64 then { d with head := v, tail := v } else { d.ignoreTail with head := 0, tail := 0 }

/-- Step 4 of R193 for the head word. -/
def DirectiveUnit.bootHead (d : DirectiveUnit) (v : Nat) : DirectiveUnit :=
  if v < 64 then { d with responseHead := v, responseTail := v } else { d.ignoreHead with responseHead := 0, responseTail := 0 }

/-- Step 4 of R193: the rings take the values of the two words; U, P and Q are 0. -/
def DirectiveUnit.bootWords (d : DirectiveUnit) (tail head : Nat) : DirectiveUnit :=
  { (d.bootTail tail).bootHead head with unconsumed := 0, published := 0, owed := 0 }

/-- The end of a successful boot (R193, steps 2 to 5). -/
def State.finishBoot (s : State) (x : BootImage) (tail head : List Byte) : State :=
  ((s.takeBootValues x).mapDir fun d => d.bootWords (leField tail 0 4) (leField head 0 4)).putResponse 0 0 .done 0 0

/-- The two reads are under way: both have been issued. -/
def State.wordsIssued (s : State) : Bool :=
  s.boot == .readingWords && (s.bus.txns.any fun t => t.owner == .bootTail && t.issued) &&
    (s.bus.txns.any fun t => t.owner == .bootHead && t.issued)

/-- Both reads leave the list of downstream transactions. -/
def State.wordsComplete (s : State) : State :=
  { s with bus := { s.bus with txns := s.bus.txns.filter fun t => t.owner != .bootTail && t.owner != .bootHead } }

/-- BOOT_WORD_READS_COMPLETE (R193). -/
def execBootWordReadsComplete (tail head : Answer) (s : State) : Host.Outcome State Fault Refusal :=
  .next (if s.wordsIssued then
      match s.image, tail, head with
      | some x, .ok a, .ok b => s.wordsComplete.finishBoot x a b
      | _, _, _ => s.wordsComplete.bootFault
    else s)

/-! ## Reset (R17, R194) -/

/-- What becomes of a downstream transaction at a reset (R17): an upstream transaction and a network fetch go on as the
upstream transaction itself; the part's own is dropped when it has not been issued, and its response is discarded when it
has. -/
def Txn.atReset (t : Txn) : Option Txn :=
  match t.owner with
  | .upstream => some t
  | .networkFetch => some { t with owner := .upstream }
  | _ => if t.issued then some { t with owner := .stale } else none

/-- The reads of a channel whose network fetch has been answered, with those answers: the read in hand, then the ready reads
(R17, log entry 12). -/
def Channel.answered (ch : Channel) : List ReadyRead :=
  (match ch.inHand with
    | some r => [⟨r.entry, .ok r.cell⟩]
    | none => []) ++ ch.ready

/-- The eligible reads whose network fetch is answered are answered with what it returned (R17). -/
def State.answerAtReset (s : State) : State :=
  (s.channels.toList.flatMap Channel.answered).foldl (fun s r => s.answer r.entry (UpResult.ofAnswer r.answer)) s

/-- Every block in its reset state; the transactions of the in-flight list are finished as pass-through (R17). What is left of
the old state is the in-flight list, the downstream transactions, the responses returned, and the commands that wait. -/
def State.resetBlocks (s : State) (phase : BootPhase) (faultLine : Bool) : State :=
  let a := s.answerAtReset
  { State.reset with
    pending := s.pending
    boot := phase
    faultLine := faultLine
    entries := a.entries.map fun e => { e with treatment := Treatment.pass }
    up := a.up
    bus := { a.bus with txns := a.bus.txns.filterMap Txn.atReset } }

/-- POWER_ON (R17, R192, R194): a boot begins, FAULT deasserted. The in-flight list and the transactions under way are kept and
finished as at a RESET arrival (DESIGN CHOICE, log entry 28: R1 excepts only a RESET arrival from an empty list). -/
def execPowerOn (s : State) : Host.Outcome State Fault Refusal :=
  .next (s.resetBlocks .readingRecord false)

/-- RESET_ARRIVAL (R17): FAULT stays as it is until the boot restarts. -/
def execResetArrival (s : State) : Host.Outcome State Fault Refusal :=
  .next (s.resetBlocks .held s.faultLine)

/-- RESET_RELEASE: the rising edge of RESET begins a boot, FAULT deasserted (R192, R194). -/
def execResetRelease (s : State) : Host.Outcome State Fault Refusal :=
  .next (if s.boot = .held then { s with boot := .readingRecord, faultLine := false } else s)

end Sys2Proof.Machine
end

