-- ==== Sys2Proof/Machine/Receiver.lean ====
section
/-! DEFINITION. The alert line receiver (chapter 8): sampling, the rate mark, the body bytes, the checks of a message, its
abandonment and its delivery. -/

namespace Sys2Proof.Machine

/-! ## Sampling (R138) -/

/-- The line's level at house time `t`, at or after the wave's falling edge: it reads low until the first toggle (R137). -/
def levelFrom (low : Bool) (t : Nat) : List Nat → Bool
  | [] => !low
  | x :: xs => if x ≤ t then levelFrom (!low) t xs else !low

/-- The level of ALERT_IN at `t`; `true` is high. -/
def waveLevel (w : Wave) (t : Nat) : Bool :=
  levelFrom true t w.toggles

/-- The three sample times of bit `k` of a byte timed from `t0` with period `p` (R138). -/
def sampleTimes (t0 p k : Nat) : Nat × Nat × Nat :=
  (t0 + k * p + 7 * p / 16, t0 + k * p + 8 * p / 16, t0 + k * p + 9 * p / 16)

/-- The value of a bit, the level at least two samples read, and whether the samples disagree (R138). -/
structure Bit where
  value : Bool
  noisy : Bool
  deriving DecidableEq, Repr

/-- Sample bit `k` of the byte that starts at the wave's falling edge (R138). -/
def sampleBit (w : Wave) (p k : Nat) : Bit :=
  let t := sampleTimes w.fall p k
  let a := waveLevel w t.1
  let b := waveLevel w t.2.1
  let c := waveLevel w t.2.2
  ⟨(a && b) || (a && c) || (b && c), !(a == b && b == c)⟩

/-- The moment of the third sample of bit `k`. -/
def sampledAt (w : Wave) (p k : Nat) : Nat :=
  (sampleTimes w.fall p k).2.2

/-- The data bits 1 to 8 as a byte, least significant first (R138). -/
def dataByte (w : Wave) (p : Nat) : Byte :=
  (List.range 8).foldl (fun b k => if (sampleBit w p (k + 1)).value then b ||| (1#8 <<< k) else b) 0

/-- The noise mark of bits 0 to 9 (R138). -/
def noiseMark (w : Wave) (p : Nat) : Bool :=
  (List.range 10).any fun k => (sampleBit w p k).noisy

/-! ## Abandonment (R150) -/

inductive AbandonReason where
  | rate | framing | truncated | check | field
  deriving DecidableEq, Repr

/-- The codes of ALERT_MESSAGE_BAD (R150, R174). -/
def AbandonReason.code : AbandonReason → Nat
  | .rate => 1 | .framing => 2 | .truncated => 3 | .check => 4 | .field => 5

/-- Step 1 of R150. -/
def ReceiverCounts.abandoned (c : ReceiverCounts) : AbandonReason → ReceiverCounts
  | .rate => { c with rate := sat c.rate }
  | .framing => { c with framing := sat c.framing }
  | .truncated => { c with truncated := sat c.truncated }
  | .check => { c with check := sat c.check }
  | .field => { c with field := sat c.field }

/-- The message in progress ends: no measured period, no idle limit, the given state. -/
def Receiver.leave (r : Receiver) (st : ReceiverState) : Receiver :=
  { r with state := st, period := none, idleFrom := none }

/-- Change the receiver. -/
def State.mapReceiver (s : State) (f : Receiver → Receiver) : State :=
  { s with receiver := f s.receiver }

/-- Abandon the message for a reason that makes no record (R150). -/
def State.abandonMessage (s : State) (why : AbandonReason) : State :=
  s.mapReceiver fun r => { r with counts := r.counts.abandoned why }.leave .standby

/-- Abandon a complete message, CHECK or FIELD, with its ALERT_MESSAGE_BAD record (R150). -/
def State.abandonLogged (s : State) (why : AbandonReason) (first second : Nat) : State :=
  let alert := beField s.receiver.buffer 4 2
  let s := s.mapReceiver fun r => { r with counts := r.counts.abandoned why }
  (s.record ⟨.alertMessageBad, 255, why.code, alert, first, second⟩).mapReceiver fun r => r.leave .standby

/-! ## Start edges (R139, R141, R144) -/

/-- What the falling edge of a wave is to a receiver whose idle limit, of 20 periods `p`, runs from `idle`. -/
inductive StartEdge where
  /-- The edge is not after the moment the receiver began to wait: nothing it waits for. -/
  | early
  /-- The limit had passed before the edge came (R152). -/
  | late
  /-- A false start (R139). -/
  | falseStart
  /-- The byte has begun. -/
  | begun
  deriving DecidableEq, Repr

/-- The start test of a falling edge (R139). The last tick of 20 periods still counts (R152). No trace is kept of the samples that
proved an earlier edge a false start: a falling edge that came among them is tested like any other (DESIGN CHOICE, log entry
33). -/
def startTest (w : Wave) (idle p : Nat) : StartEdge :=
  if w.fall ≤ idle then .early
  else if idle + 20 * p < w.fall then .late
  else if (sampleBit w p 0).value then .falseStart
  else .begun

/-! ## Attention (R140) -/

/-- The receiver reads its line only between a successful boot and the next reset (R137). -/
def State.receiving (s : State) : Bool :=
  s.boot == .running

/-- The moment from which a low level that began at `fall` is counted: that falling edge, or the moment the receiver began reading
when the line was low already (R140). -/
def Receiver.lowFrom (r : Receiver) (fall : Nat) : Nat :=
  max fall (r.readingFrom.getD 0)

/-- ATTENTION: the line, low since its falling edge at `fall`, has been read low for 16 nominal periods (R140). In BODY, where R152
takes it that no attention is met, one can be, after a stop bit that is high by its majority and low at its third sample; it is not
acted on there, and the same low level is an attention once the receiver is in STANDBY (DESIGN CHOICE, log entry 36). -/
def execAttention (fall : Nat) (s : State) : Host.Outcome State Fault Refusal :=
  .next (if s.receiving && (s.receiver.state == .waitAttention || s.receiver.state == .standby) then
      (s.atTime (s.receiver.lowFrom fall + 16 * s.receiver.nominal)).mapReceiver fun r => { r.leave .attention with buffer := [] }
    else s)

/-- ATTENTION_END: the first rising edge after an attention, at `rise` (R140). -/
def execAttentionEnd (rise : Nat) (s : State) : Host.Outcome State Fault Refusal :=
  .next (if s.receiving && s.receiver.state == .attention then
      (s.atTime rise).mapReceiver fun r => { r with state := .rateMark, idleFrom := some rise }
    else s)

/-! ## The rate mark (R141 to R143) -/

/-- The edges the receiver records, each its time and whether it rises: those that follow the third sample of the start bit, with
which the start edge passes its test under the nominal period `n` (R141; DEDUCED, log entry 35). -/
def recordedEdges (w : Wave) (n : Nat) : List (Nat × Bool) :=
  (w.toggles.zipIdx.map fun e => (e.1, e.2 % 2 == 0)).filter fun e => decide (sampledAt w n 0 < e.1)

/-- The fourth falling edge, counting the start edge as the first, when it comes within 8 nominal periods `n` (R141). -/
def fourthFall (w : Wave) (n : Nat) : Option Nat :=
  match ((recordedEdges w n).filter fun e => !e.2)[2]? with
  | some e => if e.1 ≤ w.fall + 8 * n then some e.1 else none
  | none => none

/-- The measured bit period (R142). -/
def measuredPeriod (span : Nat) : Nat :=
  (span + 3) / 7

/-- The distance of two times. -/
def timeGap (a b : Nat) : Nat :=
  (a - b) + (b - a)

/-- The tolerance test of R142: |m - n| × 8 is not greater than n. -/
def withinTolerance (m n : Nat) : Bool :=
  decide (timeGap m n * 8 ≤ n)

/-- The five edges recorded before the fourth falling edge rise and fall in turn and stand within m / 2 of 2m to 6m after the
start edge (R143). -/
def edgesInPlace (w : Wave) (n m : Nat) : Bool :=
  (List.range 5).all fun k => (recordedEdges w n)[k]?.any fun e =>
    e.2 == (k % 2 == 0) && decide (timeGap e.1 (w.fall + (k + 2) * m) ≤ m / 2)

/-- The noise mark of the rate mark: its start bit under the nominal period, bits 8 and 9 under the measured one (R143). -/
def rateMarkNoise (w : Wave) (n m : Nat) : Bool :=
  (sampleBit w n 0).noisy || (sampleBit w m 8).noisy || (sampleBit w m 9).noisy

/-- Count a noisy byte (R138). -/
def ReceiverCounts.noted (c : ReceiverCounts) (noise : Bool) : ReceiverCounts :=
  if noise then { c with noise := sat c.noise } else c

/-- An accepted rate mark (R143). -/
def Receiver.acceptMark (r : Receiver) (w : Wave) (m : Nat) : Receiver :=
  { r with
    state := .body
    period := some m
    buffer := [0xAA#8]
    idleFrom := some (sampledAt w m 9)
    counts := r.counts.noted (rateMarkNoise w r.nominal m) }

/-- The rate mark, its start edge having passed the test (R141 to R143). -/
def State.takeRateMark (s : State) (w : Wave) : State :=
  let n := s.receiver.nominal
  match fourthFall w n with
  | none => (s.atTime (w.fall + 8 * n)).abandonMessage .rate
  | some t =>
    let m := measuredPeriod (t - w.fall)
    if !withinTolerance m n || !edgesInPlace w n m then (s.atTime t).abandonMessage .rate
    else if !(sampleBit w m 8).value then (s.atTime (sampledAt w m 8)).abandonMessage .rate
    else if !(sampleBit w m 9).value then (s.atTime (sampledAt w m 9)).abandonMessage .framing
    else (s.atTime (sampledAt w m 9)).mapReceiver fun r => r.acceptMark w m

/-- The idle limit passes (R141, R144, R152): the limit has not passed until the tick after its last. -/
def State.idleExpired (s : State) (idle p : Nat) : State :=
  (s.atTime (idle + 20 * p + 1)).abandonMessage .truncated

/-- A falling edge met while the receiver waits for the start bit of a byte of period `p`: late, false, or `f` (R139,
R152). -/
def State.onStartEdge (s : State) (w : Wave) (p : Nat) (f : State → State) : State :=
  match s.receiver.idleFrom with
  | none => s
  | some idle =>
    match startTest w idle p with
    | .early => s
    | .late => s.idleExpired idle p
    | .falseStart => s.atTime (sampledAt w p 0)
    | .begun => f s

/-- RATE_MARK. -/
def execRateMark (wave : Wave) (s : State) : Host.Outcome State Fault Refusal :=
  .next (if s.receiving && s.receiver.state == .rateMark then
      s.onStartEdge wave s.receiver.nominal fun s => s.takeRateMark wave
    else s)

/-- RATE_TIMEOUT: no fourth falling edge within 8 nominal periods of the start edge (R141). -/
def State.rateTimeout (s : State) (w : Wave) : State :=
  if (fourthFall w s.receiver.nominal).isNone then (s.atTime (w.fall + 8 * s.receiver.nominal)).abandonMessage .rate else s

def execRateTimeout (wave : Wave) (s : State) : Host.Outcome State Fault Refusal :=
  .next (if s.receiving && s.receiver.state == .rateMark then
      s.onStartEdge wave s.receiver.nominal fun s => s.rateTimeout wave
    else s)

/-! ## The message (R144 to R149) -/

/-- The zone of bytes 1 and 2 is ours (R145). -/
def Receiver.zoneOurs (r : Receiver) : Bool :=
  let z := beField r.buffer 1 2
  z == 0xFFFF || r.zones.contains z

/-- The CRC-16 of bytes 1 to 9 (R147). -/
def messageCrc (buffer : List Byte) : Nat :=
  (crc16 (slice buffer 1 9)).toNat

/-- The arrival a valid message makes, its level and duration clamped (R148, R149); `none` when the feed byte is above 1 or
the group mask 0. -/
def messageArrival (buffer : List Byte) : Option Arrival :=
  let feed := beField buffer 7 1
  let groups := buffer.getD 6 0
  if groups = 0 then none
  else if h : feed < 2 then
    some ⟨beField buffer 4 2, clamp 1 3 (beField buffer 3 1), .line, groups, ⟨feed, h⟩, min (beField buffer 8 2) 7200⟩
  else none

/-- Delivery (R149). -/
def State.deliver (s : State) (a : Arrival) : State :=
  let s := s.mapReceiver fun r => { r with counts := { r.counts with delivered := sat r.counts.delivered } }.leave .waitAttention
  (s.arrive a).1

/-- A complete message is judged (R147, R148). -/
def State.judgeMessage (s : State) : State :=
  let b := s.receiver.buffer
  if messageCrc b ≠ beField b 10 2 then s.abandonLogged .check (beField b 10 2) (messageCrc b)
  else match messageArrival b with
    | none => s.abandonLogged .field (beField b 7 1) (beField b 6 1)
    | some a => s.deliver a

/-- The zone is not ours (R145). The measured period stays until the next attention (log entry 14). -/
def Receiver.notOurs (r : Receiver) : Receiver :=
  { r with state := .standby, idleFrom := none, counts := { r.counts with notOurs := sat r.counts.notOurs } }

/-- A byte is placed in the next position of the buffer (R144). -/
def Receiver.placeByte (r : Receiver) (w : Wave) (p : Nat) : Receiver :=
  { r with
    buffer := r.buffer ++ [dataByte w p]
    idleFrom := some (sampledAt w p 9)
    counts := r.counts.noted (noiseMark w p) }

/-- What a byte just placed brings: byte 2 the zone, byte 11 the end (R145, R147). -/
def State.afterByte (s : State) : State :=
  if s.receiver.buffer.length = 3 then
    if s.receiver.zoneOurs then s else s.mapReceiver Receiver.notOurs
  else if s.receiver.buffer.length = 12 then s.judgeMessage
  else s

/-- A body byte, its start edge having passed the test (R144, R146). -/
def State.takeBodyByte (s : State) (w : Wave) (p : Nat) : State :=
  let s := s.atTime (sampledAt w p 9)
  if (sampleBit w p 9).value then (s.mapReceiver fun r => r.placeByte w p).afterByte else s.abandonMessage .framing

/-- BODY_BYTE. -/
def execBodyByte (wave : Wave) (s : State) : Host.Outcome State Fault Refusal :=
  .next (if s.receiving && s.receiver.state == .body then
      match s.receiver.period with
      | none => s
      | some p => s.onStartEdge wave p fun s => s.takeBodyByte wave p
    else s)

/-! ## The idle limit (R141, R144) -/

/-- The period the running idle limit is counted in: nominal in RATE_MARK, measured in BODY. -/
def Receiver.idlePeriod (r : Receiver) : Option Nat :=
  match r.state with
  | .rateMark => some r.nominal
  | .body => r.period
  | .waitAttention => none
  | .attention => none
  | .standby => none

/-- IDLE_LIMIT_EXPIRY. -/
def execIdleLimitExpiry (s : State) : Host.Outcome State Fault Refusal :=
  .next (if s.receiving then
      match s.receiver.idlePeriod, s.receiver.idleFrom with
      | some p, some idle => s.idleExpired idle p
      | _, _ => s
    else s)

end Sys2Proof.Machine
end

