-- ==== Sys2Proof/Machine/Snapshot.lean ====
section
/-! DEFINITION. STATUS and its snapshots (section 11.5): the layout of the three scopes, the counts they clear, the snapshot
writes and their completion. -/

namespace Sys2Proof.Machine

/-! ## Values in a snapshot (R191) -/

/-- A value of up to 32 bits: one word. -/
def snapWord (v : Nat) : List Byte :=
  leBytes 4 v

/-- A value of 33 to 64 bits: two words. -/
def snapPair (v : Nat) : List Byte :=
  leBytes 8 v

/-- A flag: 1 when set. -/
def snapFlag (b : Bool) : List Byte :=
  snapWord (if b then 1 else 0)

/-- All ones in `n` words: an absent value. -/
def snapAbsent (n : Nat) : List Byte :=
  List.replicate (4 * n) 0xFF#8

/-- A value of one word that may be absent. -/
def snapWord? (v : Option Nat) : List Byte :=
  match v with
  | some x => snapWord x
  | none => snapAbsent 1

/-- A value of two words that may be absent. -/
def snapPair? (v : Option Nat) : List Byte :=
  match v with
  | some x => snapPair x
  | none => snapAbsent 2

/-- A PTS that may be absent. -/
def snapPts? (v : Option Pts) : List Byte :=
  snapPair? (v.map BitVec.toNat)

/-- A list of at most `places` entries of `size` words each: the count, the entries, and absent places (R191). -/
def snapList (places size : Nat) (entries : List (List Byte)) : List Byte :=
  snapWord entries.length ++ (entries.take places).flatten ++ snapAbsent (size * (places - entries.length))

/-! ## Named values (R191) -/

def ChannelState.code : ChannelState → Nat
  | .off => 0 | .network => 1 | .insert => 2 | .subst => 3 | .alert => 4 | .returnWait => 5

/-- The full policy's code in a snapshot and in a directive; its code as a reason of CUE_LOST is another (R174). -/
def FullPolicy.snapCode : FullPolicy → Nat
  | .keep => 0 | .earliest => 1

def ReturnKind.code : ReturnKind → Nat
  | .breakEnd => 0 | .cueIn => 1

def ClockStatus.code : ClockStatus → Nat
  | .unseen => 0 | .unsteady => 1 | .steady => 2

def WindowState.code : WindowState → Nat
  | .scheduled => 0 | .active => 1 | .suspended => 2

def ClipState.code : ClipState → Nat
  | .free => 0 | .queued => 1 | .verifying => 2 | .ready => 3 | .failed => 4

def ReceiverState.code : ReceiverState → Nat
  | .waitAttention => 0 | .attention => 1 | .rateMark => 2 | .body => 3 | .standby => 4

def QueueMode.code : QueueMode → Nat
  | .mayEmpty => 0 | .holdLast => 1

/-- A source: its kind, the clip or feed number, the next cell index or the cursor (R191). -/
def Source.snap : Source → List Byte
  | .network => snapWord 0 ++ snapAbsent 2
  | .clip n i => snapWord 1 ++ snapWord n ++ snapWord i
  | .feed f cursor => snapWord 2 ++ snapWord f ++ snapWord? (cursor.map BitVec.toNat)
  | .none => snapWord 3 ++ snapAbsent 2

/-! ## DEVICE scope (R190; R36, R82, R136, R151, R169, R185) -/

/-- The directive unit's part. -/
def DirectiveUnit.snap (d : DirectiveUnit) : List Byte :=
  [d.head, d.tail, d.responseHead, d.responseTail, d.unconsumed, d.published, d.owed, d.ignoredTails, d.ignoredHeads,
    d.fetchErrors, d.writeErrors].flatMap snapWord

/-- The number of clips in a state. -/
def State.clipCount (s : State) (st : ClipState) : Nat :=
  ((List.finRange 64).filter fun n => (s.clip n).state == st).length

/-- Clip counts by state, the verify queue, and the VERIFYING clip (R82). -/
def State.snapClips (s : State) : List Byte :=
  [ClipState.free, .queued, .verifying, .ready, .failed].flatMap (fun st => snapWord (s.clipCount st)) ++
    snapList 64 1 (s.verifyQueue.map fun n => snapWord n.val) ++ snapWord? (s.verifying.map Fin.val)

/-- The number of window records in use (R136). -/
def State.windowCount (s : State) : Nat :=
  ((List.finRange 48).filter fun w => (s.window w).isSome).length

/-- A feed tracker's part (R36). -/
def FeedTracker.snap (t : FeedTracker) : List Byte :=
  snapWord t.written.toNat ++ snapWord t.next ++ snapWord? (t.latest.map fun e => e.1.toNat) ++
    snapPts? (t.latest.map Prod.snd) ++ snapWord t.malformed ++ snapWord t.breaks

/-- The message buffer: the number of bytes, then twelve bytes; one that has not been received is a free value (R151, log
entry 17). -/
def Receiver.snapBuffer (r : Receiver) : List Byte :=
  snapWord r.buffer.length ++ (List.range 12).map fun i => (r.buffer[i]?).getD (Config.unreceivedByte i)

def ReceiverCounts.snap (c : ReceiverCounts) : List Byte :=
  [c.noise, c.rate, c.framing, c.truncated, c.check, c.field, c.notOurs, c.delivered].flatMap snapWord

/-- The receiver's part (R151). -/
def Receiver.snap (r : Receiver) : List Byte :=
  snapWord r.state.code ++ snapWord? r.period ++ r.snapBuffer ++ r.counts.snap

/-- An alert context with every field (R169). -/
def AlertContext.snap (x : AlertContext) : List Byte :=
  snapWord x.alert ++ snapWord x.level ++ snapWord x.source.code ++ snapWord x.groupMask.toNat ++
    snapWord (alertFeed x.feed) ++ snapPair? x.duration ++ snapWord x.state.code ++ snapWord? (x.target.map BitVec.toNat) ++
    snapPair? x.activated

/-- A context's expiry time: activation plus duration; absent when open-ended (R162, R169). -/
def AlertContext.expiry (x : AlertContext) : Option Nat :=
  match x.activated, x.duration with
  | some t, some d => some (t + d)
  | _, _ => none

/-- The alert controller's part (R169). -/
def AlertControl.snap (a : AlertControl) : List Byte :=
  (match a.current with
    | some x => x.snap ++ snapPair? x.expiry
    | none => snapAbsent 13) ++
    snapList 4 11 (a.queue.map AlertContext.snap) ++ snapList 8 1 (a.recent.map snapWord) ++
    a.groups.toList.flatMap (fun g => snapWord g.toNat) ++ snapWord a.mode.code ++ snapWord a.duplicates

/-- The log writer's figures, in the order in which R185 names them: R191's parenthesis does not name R185 (DEDUCED, log entry 16). -/
def LogWriter.snap (l : LogWriter) : List Byte :=
  [l.size, l.fo, l.floor, l.state.code, l.room, l.withheld, l.batchNumber, l.sequence].flatMap snapWord ++
    snapWord? (l.batch.map OpenBatch.number) ++ snapWord? (l.batch.map OpenBatch.count) ++
    snapPair? (l.batch.map OpenBatch.opened) ++ snapWord l.closing.length

/-- The items of the DEVICE snapshot. -/
def State.deviceItems (s : State) : List Byte :=
  snapWord s.refusedWrites ++ s.dir.snap ++ s.snapClips ++ snapWord s.windowCount ++
    s.feeds.toList.flatMap FeedTracker.snap ++ s.receiver.snap ++ s.alerts.snap ++ s.log.snap

/-! ## Channel scope (R190; R61, R89, R96, R100, R136) -/

def ChannelConfig.snap (g : ChannelConfig) : List Byte :=
  g.roles.toList.flatMap snapWord? ++ snapWord? g.cuePid ++ snapWord g.policy.snapCode ++
    [g.lateTolerance, g.maxBreak, g.returnLimit, g.clockTolerance].flatMap snapWord

/-- A pod: a list of at most four clips. -/
def snapPod (pod : List (Fin 64)) : List Byte :=
  snapList 4 1 (pod.map fun n => snapWord n.val)

/-- The current avail with every field of section 6.1. -/
def CurrentAvail.snap (a : CurrentAvail) : List Byte :=
  snapWord a.event ++ snapWord a.avail ++ snapPair a.splice.toNat ++ snapPts? (a.ret.map Prod.fst) ++
    snapWord? (a.ret.map fun r => r.2.code) ++ snapFlag a.autoReturn ++ snapPod a.pod ++ snapWord a.podIndex

/-- A queued event with every field of section 5.3. -/
def AvailEvent.snap (e : AvailEvent) : List Byte :=
  snapWord e.event ++ snapPair e.time.toNat ++ snapWord? e.duration ++ snapFlag e.autoReturn ++ snapWord e.avail ++
    snapPod e.pod ++ snapPts? e.ret

/-- A role's continuity state. -/
def Continuity.snap (r : Continuity) : List Byte :=
  snapWord? (r.last.map BitVec.toNat) ++ snapWord r.k.toNat ++ snapFlag r.pending

def ChannelCounts.snap (c : ChannelCounts) : List Byte :=
  [c.duplicates, c.cueBad, c.nulls, c.underflows, c.slips, c.readErrors, c.misaligned, c.malformed].flatMap snapWord

/-- A window of the channel's list: id, feed, start, end, state (R136). -/
def State.snapWindow (s : State) (id : Fin 48) : List Byte :=
  match s.window id with
  | some w => snapWord id ++ snapWord w.feed ++ snapPair w.start.toNat ++ snapPair w.stop.toNat ++ snapWord w.state.code
  | none => snapAbsent 7

/-- The items of a channel snapshot. -/
def State.channelItems (s : State) (c : Fin 32) : List Byte :=
  let ch := s.chan c
  ch.config.snap ++ snapWord ch.state.code ++ ch.source.snap ++
    (match ch.avail with
      | some a => a.snap
      | none => snapAbsent 14) ++
    snapPts? ch.clipAnchor ++ snapWord? (ch.window.map Fin.val) ++ snapPair ch.delta.toNat ++
    ch.continuity.toList.flatMap Continuity.snap ++ snapFlag ch.pcrMark ++ snapPts? ch.outPts ++ snapPts? ch.netPts ++
    snapWord ch.nullCount ++ snapWord ch.clock.status.code ++ snapWord ch.clock.settle ++ snapPts? ch.ingestPts ++
    snapList 4 13 (ch.queue.map AvailEvent.snap) ++ snapList 4 1 (ch.recent.map snapWord) ++
    snapList 48 7 (ch.windows.map s.snapWindow) ++ ch.counts.snap ++ snapWord ch.malformedIngest

/-! ## Clip scope (R82) -/

/-- The items of a clip snapshot. -/
def Clip.items (x : Clip) : List Byte :=
  snapWord x.state.code ++ snapPair x.base ++ snapWord x.cells ++ snapWord x.expectedCrc.toNat ++
    snapList 8 2 (x.map.map fun e => snapWord e.1 ++ snapWord e.2.idx) ++ snapPts? x.p0 ++ snapWord? x.period ++
    snapPts? x.pMax ++ snapWord? x.duration ++ snapPair? x.firstPcr ++ snapWord x.plays ++
    snapWord? (x.failure.map ClipFailure.code) ++ snapWord x.cursor

/-! ## Clearing (R190) -/

/-- The counts a DEVICE report clears. -/
def State.clearDevice (s : State) : State :=
  { s with
    refusedWrites := 0
    dir := { s.dir with ignoredTails := 0, ignoredHeads := 0, fetchErrors := 0, writeErrors := 0 }
    feeds := s.feeds.map fun t => { t with malformed := 0, breaks := 0 }
    receiver := { s.receiver with counts := ReceiverCounts.zero }
    alerts := { s.alerts with duplicates := 0 } }

/-- The counts a channel report clears. -/
def State.clearChannel (s : State) (c : Fin 32) : State :=
  s.mapChan c fun ch => { ch with counts := ChannelCounts.zero, malformedIngest := 0 }

/-! ## STATUS (R190) -/

/-- A tested scope. -/
inductive Scope where
  | device
  | channel (c : Fin 32)
  | clip (n : Fin 64)
  deriving DecidableEq, Repr

/-- The scope a STATUS names, if it names one (R190). -/
def Scope.of (scope number : Nat) : Option Scope :=
  match scope with
  | 0 => some .device
  | 1 => if h : number < 32 then some (.channel ⟨number, h⟩) else none
  | 2 => if h : number < 64 then some (.clip ⟨number, h⟩) else none
  | _ => none

/-- The snapshot extent of a scope, in bytes (R190). -/
def Scope.extent : Scope → Nat
  | .device => 1024
  | .channel _ => 3072
  | .clip _ => 256

/-- The items of a scope as they stand. -/
def State.snapItems (s : State) : Scope → List Byte
  | .device => s.deviceItems
  | .channel c => s.channelItems c
  | .clip n => (s.clip n).items

/-- The counts a report of a scope clears. -/
def State.clearScope (s : State) : Scope → State
  | .device => s.clearDevice
  | .channel c => s.clearChannel c
  | .clip _ => s

/-- The snapshot over the whole extent, the words after the last item 0 (R191). -/
def State.snapshot (s : State) (x : Scope) : List Byte :=
  (s.snapItems x ++ List.replicate x.extent 0).take x.extent

/-- The status area of the region map. -/
def State.statusArea (s : State) : Span :=
  match s.map with
  | some m => m.statusArea
  | none => ⟨0, 0⟩

/-- A snapshot of `extent` bytes at `dest` passes the tests of R190. -/
def State.destOk (s : State) (dest extent : Nat) : Bool :=
  decide (dest % 64 = 0) && decide (s.statusArea.base ≤ dest) &&
    decide (dest + extent ≤ s.statusArea.base + s.statusArea.size)

/-- Request the 128-byte writes of a snapshot in address order, `n` of them from the `i`th on (R190). -/
def Bus.writeSnapshot (job dest : Nat) (bytes : List Byte) : Nat → Nat → Bus → Bus
  | 0, _, b => b
  | n + 1, i, b => Bus.writeSnapshot job dest bytes n (i + 1) (b.write (dest + 128 * i) (slice bytes (128 * i) 128) (.snapshot job))

/-- The snapshot is taken, the counts are cleared, and the writes are requested (R190). -/
def State.takeSnapshot (s : State) (t : Ticket) (x : Scope) (dest : Nat) : State :=
  let bytes := s.snapshot x
  let job := s.bus.next
  let n := x.extent / 128
  let s := s.clearScope x
  { s with
    bus := Bus.writeSnapshot job dest bytes n 0 s.bus
    dir := { s.dir with snapshots := s.dir.snapshots ++ [⟨job, t, n, false⟩] } }

/-- STATUS (R190). -/
def State.status (s : State) (t : Ticket) (scope number dest : Nat) : State :=
  match Scope.of scope number with
  | none => s.respond t.seq 15 .refusedRange 0 t.slot
  | some x => if s.destOk dest x.extent then s.takeSnapshot t x dest else s.respond t.seq 15 .refusedRange 0 t.slot

def execStatus (seq slot scope number dest : Nat) (s : State) : Host.Outcome State Fault Refusal :=
  .next (s.takeDirective (.status seq slot scope number dest) fun s => s.status ⟨seq, slot⟩ scope number dest)

/-! ## STATUS_WRITE_COMPLETE (R190) -/

/-- One write of a snapshot has been answered. -/
def SnapshotJob.answered (j : SnapshotJob) (job : Nat) (a : Answer) : SnapshotJob :=
  if j.job = job then { j with left := j.left - 1, failed := j.failed || a == .error } else j

/-- Answer the STATUS directives whose writes have all completed: DONE, or FAILED with WRITE_ERROR (1) (R190). -/
def State.answerSnapshots (s : State) : State :=
  let ready := s.dir.snapshots.filter fun j => j.left == 0
  let s := { s with dir := { s.dir with snapshots := s.dir.snapshots.filter fun j => j.left != 0 } }
  ready.foldl (fun s j =>
    if j.failed then s.respond j.ticket.seq 15 .failed 1 j.ticket.slot else s.respond j.ticket.seq 15 .done 0 j.ticket.slot) s

/-- A snapshot write is answered. -/
def State.snapshotAnswered (s : State) (job : Nat) (a : Answer) : State :=
  { s with dir := { s.dir with snapshots := s.dir.snapshots.map (SnapshotJob.answered · job a) } }.answerSnapshots

def execStatusWriteComplete (txn : Nat) (answer : Answer) (s : State) : Host.Outcome State Fault Refusal :=
  .next (s.onResponse txn fun t s =>
    match t.owner with
    | .snapshot job => (s.completeTxn txn).snapshotAnswered job answer
    | _ => s)

end Sys2Proof.Machine
end

