-- ==== Sys2Proof/Machine/Windows.lean ====
section
/-! DEFINITION. WINDOW_ADD and WINDOW_DROP (sections 7.2 and 7.5), and AVAIL_ABORT (section 6.6). -/

namespace Sys2Proof.Machine

/-! ## WINDOW_ADD (R122, R123) -/

/-- Two windows overlap when the start of each is before the end of the other (R122). -/
def windowsOverlap (start stop start' stop' : Pts) : Bool :=
  isAfter stop' start && isAfter stop start'

/-- A window of the channel overlaps the span, whatever its state (R122). -/
def State.windowClash (s : State) (c : Fin 32) (start stop : Pts) : Bool :=
  (s.chan c).windows.any fun id => (s.window id).any fun w => windowsOverlap w.start w.stop start stop

/-- All 48 records hold windows (R122). -/
def State.windowsFull (s : State) : Bool :=
  (List.finRange 48).all fun id => (s.window id).isSome

/-- The start of a window record; 0 when it is empty. -/
def State.windowStart (s : State) (id : Fin 48) : Pts :=
  match s.window id with
  | some w => w.start
  | none => 0

/-- Place a window immediately before the first window whose start is after its own (R123). -/
def insertWindow (startOf : Fin 48 → Pts) (id : Fin 48) (start : Pts) : List (Fin 48) → List (Fin 48)
  | [] => [id]
  | x :: xs => if isAfter (startOf x) start then id :: x :: xs else x :: insertWindow startOf id start xs

/-- An accepted WINDOW_ADD (R123). -/
def State.addWindow (s : State) (id : Fin 48) (w : Window) : State :=
  let startOf := s.windowStart
  (s.setWindow id (some w)).mapChan w.channel fun ch => { ch with windows := insertWindow startOf id w.start ch.windows }

/-- The tests of R122 after the range tests, in their order. -/
def State.windowAddTest (s : State) (id : Fin 48) (w : Window) : Option (DirectiveResult × Nat) :=
  if !isAfter w.stop w.start then some (.refusedRange, 0)
  else if s.windowsFull then some (.refusedFull, 0)
  else if (s.window id).isSome then some (.refusedState, 1)
  else if !(s.chan w.channel).enabled then some (.refusedState, 2)
  else if s.windowClash w.channel w.start w.stop then some (.refusedState, 3)
  else none

/-- WINDOW_ADD (R122, R123). -/
def State.windowAdd (s : State) (t : Ticket) (f : WindowAddFields) : State :=
  if h : f.window < 48 ∧ f.channel < 32 ∧ f.feed < 4 ∧ f.start < 2 ^ 33 ∧ f.stop < 2 ^ 33 then
    let id : Fin 48 := ⟨f.window, h.1⟩
    let w : Window :=
      ⟨⟨f.channel, h.2.1⟩, ⟨f.feed, h.2.2.1⟩, BitVec.ofNat 33 f.start, BitVec.ofNat 33 f.stop, .scheduled⟩
    match s.windowAddTest id w with
    | some r => s.respond t.seq 7 r.1 r.2 t.slot
    | none => (s.addWindow id w).respond t.seq 7 .done 0 t.slot
  else s.respond t.seq 7 .refusedRange 0 t.slot

def execWindowAdd (seq slot : Nat) (fields : WindowAddFields) (s : State) : Host.Outcome State Fault Refusal :=
  .next (s.takeDirective (.windowAdd seq slot fields) fun s => s.windowAdd ⟨seq, slot⟩ fields)

/-! ## WINDOW_DROP (R132) -/

/-- The removal of a dropped window by its state (R132). -/
def State.dropWindow (s : State) (id : Fin 48) (w : Window) : State :=
  let s := s.removeWindow id w .dropped
  if w.state = .active then s.mapChan w.channel Channel.toReturnWait else s

/-- WINDOW_DROP (R132). -/
def State.windowDrop (s : State) (t : Ticket) (window : Nat) : State :=
  if h : window < 48 then
    match s.window ⟨window, h⟩ with
    | none => s.respond t.seq 8 .refusedState 1 t.slot
    | some w => (s.dropWindow ⟨window, h⟩ w).respond t.seq 8 .done 0 t.slot
  else s.respond t.seq 8 .refusedRange 0 t.slot

def execWindowDrop (seq slot window : Nat) (s : State) : Host.Outcome State Fault Refusal :=
  .next (s.takeDirective (.windowDrop seq slot window) fun s => s.windowDrop ⟨seq, slot⟩ window)

/-! ## AVAIL_ABORT (R115, R116) -/

/-- AVAIL_ABORT (R116). -/
def State.availAbort (s : State) (t : Ticket) (channel event : Nat) : State :=
  if h : channel < 32 then
    let c : Fin 32 := ⟨channel, h⟩
    if (s.chan c).state ≠ .insert then s.respond t.seq 6 .refusedState 1 t.slot
    else if !(s.chan c).playing event then s.respond t.seq 6 .refusedState 2 t.slot
    else ((s.abandon c .cut .aborted).mapChan c Channel.toReturnWait).respond t.seq 6 .done 0 t.slot
  else s.respond t.seq 6 .refusedRange 0 t.slot

def execAvailAbort (seq slot channel event : Nat) (s : State) : Host.Outcome State Fault Refusal :=
  .next (s.takeDirective (.availAbort seq slot channel event) fun s => s.availAbort ⟨seq, slot⟩ channel event)

end Sys2Proof.Machine
end

