-- ==== Sys2Proof/Machine/Dispatch.lean ====
section
/-! DEFINITION. The meaning of every command: one arm per constructor of Instr, each a direct call of its meaning. -/

namespace Sys2Proof.Machine

def exec (i : Instr) (s : State) : Host.Outcome State Fault Refusal :=
  match i with
  | .powerOn => Sys2Proof.Machine.execPowerOn s
  | .resetArrival => Sys2Proof.Machine.execResetArrival s
  | .resetRelease => Sys2Proof.Machine.execResetRelease s
  | .bootRecordRead record => Sys2Proof.Machine.execBootRecordRead record s
  | .bootWordReadsComplete tail head => Sys2Proof.Machine.execBootWordReadsComplete tail head s
  | .upstreamWrite tag addr len data enables => Sys2Proof.Machine.execUpstreamWrite tag addr len data enables s
  | .upstreamRead tag addr len => Sys2Proof.Machine.execUpstreamRead tag addr len s
  | .downstreamGrant => Sys2Proof.Machine.execDownstreamGrant s
  | .passedTransactionComplete txn answer => Sys2Proof.Machine.execPassedTransactionComplete txn answer s
  | .ringWriteComplete txn => Sys2Proof.Machine.execRingWriteComplete txn s
  | .directiveTailWrite txn => Sys2Proof.Machine.execDirectiveTailWrite txn s
  | .responseHeadWrite txn => Sys2Proof.Machine.execResponseHeadWrite txn s
  | .partialWatchedWrite txn => Sys2Proof.Machine.execPartialWatchedWrite txn s
  | .takeRead channel => Sys2Proof.Machine.execTakeRead channel s
  | .clipCellArrival txn answer => Sys2Proof.Machine.execClipCellArrival txn answer s
  | .feedCellArrival txn answer => Sys2Proof.Machine.execFeedCellArrival txn answer s
  | .directiveFetch => Sys2Proof.Machine.execDirectiveFetch s
  | .fetchComplete txn answer => Sys2Proof.Machine.execFetchComplete txn answer s
  | .channelSet seq slot fields => Sys2Proof.Machine.execChannelSet seq slot fields s
  | .clipLoad seq slot fields => Sys2Proof.Machine.execClipLoad seq slot fields s
  | .clipFree seq slot clip => Sys2Proof.Machine.execClipFree seq slot clip s
  | .bind seq slot fields => Sys2Proof.Machine.execBind seq slot fields s
  | .unbind seq slot channel key => Sys2Proof.Machine.execUnbind seq slot channel key s
  | .availAbort seq slot channel event => Sys2Proof.Machine.execAvailAbort seq slot channel event s
  | .windowAdd seq slot fields => Sys2Proof.Machine.execWindowAdd seq slot fields s
  | .windowDrop seq slot window => Sys2Proof.Machine.execWindowDrop seq slot window s
  | .groupEdit seq slot group mode mask => Sys2Proof.Machine.execGroupEdit seq slot group mode mask s
  | .alertSend seq slot fields => Sys2Proof.Machine.execAlertSend seq slot fields s
  | .alertClear seq slot flush => Sys2Proof.Machine.execAlertClear seq slot flush s
  | .alertMode seq slot mode => Sys2Proof.Machine.execAlertMode seq slot mode s
  | .logClose seq slot => Sys2Proof.Machine.execLogClose seq slot s
  | .logRestart seq slot => Sys2Proof.Machine.execLogRestart seq slot s
  | .status seq slot scope number dest => Sys2Proof.Machine.execStatus seq slot scope number dest s
  | .statusWriteComplete txn answer => Sys2Proof.Machine.execStatusWriteComplete txn answer s
  | .responseEntryWriteComplete txn answer => Sys2Proof.Machine.execResponseEntryWriteComplete txn answer s
  | .responseTailWriteComplete txn answer => Sys2Proof.Machine.execResponseTailWriteComplete txn answer s
  | .verifyReadComplete txn answer => Sys2Proof.Machine.execVerifyReadComplete txn answer s
  | .batchTimerExpiry => Sys2Proof.Machine.execBatchTimerExpiry s
  | .logRecordWriteComplete txn answer => Sys2Proof.Machine.execLogRecordWriteComplete txn answer s
  | .markWriteComplete txn answer => Sys2Proof.Machine.execMarkWriteComplete txn answer s
  | .attention fall => Sys2Proof.Machine.execAttention fall s
  | .attentionEnd rise => Sys2Proof.Machine.execAttentionEnd rise s
  | .rateMark wave => Sys2Proof.Machine.execRateMark wave s
  | .rateTimeout wave => Sys2Proof.Machine.execRateTimeout wave s
  | .bodyByte wave => Sys2Proof.Machine.execBodyByte wave s
  | .idleLimitExpiry => Sys2Proof.Machine.execIdleLimitExpiry s
  | .alertExpiry => Sys2Proof.Machine.execAlertExpiry s

end Sys2Proof.Machine
end

