-- ==== Sys2Proof/Machine/Flags.lean ====
section
/-! DEFINITION. The two output lines of the part: ATTN (R189) and FAULT (R192). -/

namespace Sys2Proof.Machine

/-- ATTN is asserted while P is above 0 (R189). -/
def State.attn (s : State) : Bool :=
  decide (0 < s.dir.published)

/-- FAULT is asserted after a boot fault until the next reset (R17, R192). -/
def State.fault (s : State) : Bool :=
  s.faultLine

end Sys2Proof.Machine
end

