-- ==== Sys2Proof/Safety.lean ====
section
/-! DEFINITION. What counts as a safe state of the part, and the words in which statements about it are written: the bytes a write
touches, the ranges of the map, the boot record, the arbiter's choice, the directive in hand, and the invariants that every step keeps. -/

namespace Sys2Proof.Machine

/-! ## Bytes and ranges (R3, R4, R5) -/

/-- A write at `addr` with these enable flags touches byte `b` (section 1.1). -/
def touchesByte (addr : Nat) (enables : List Bool) (b : Nat) : Prop :=
  addr ≤ b ∧ enables[b - addr]? = some true

/-- Byte `b` lies in the range. -/
def Span.has (r : Span) (b : Nat) : Prop :=
  r.base ≤ b ∧ b < r.base + r.size

/-- Byte `b` lies in the ring. -/
def Ring.has (r : Ring) (b : Nat) : Prop :=
  r.base ≤ b ∧ b < r.base + 192 * r.cells

/-- Byte `b` lies in the clip's range. -/
def Clip.has (x : Clip) (b : Nat) : Prop :=
  x.base ≤ b ∧ b < x.base + 192 * x.cells

/-- Byte `b` lies in a channel ring or a feed ring of the map. -/
def RegionMap.ringHas (m : RegionMap) (b : Nat) : Prop :=
  (∃ (c : Fin 32) (r : Ring), m.channelRings[c] = some r ∧ r.has b) ∨ ∃ f : Fin 6, m.feedRings[f].has b

/-- Byte `b` is protected whatever the clips are: the log region, the status area, the response ring's slots and its tail word
(R4). -/
def RegionMap.alwaysProtects (m : RegionMap) (b : Nat) : Prop :=
  m.logRegion.has b ∨ m.statusArea.has b ∨ (m.responseBase ≤ b ∧ b < m.responseBase + 1024) ∨
    (m.responseBase + 1040 ≤ b ∧ b < m.responseBase + 1044)

/-- Byte `b` is protected as the ranges stand (R4, R63). -/
def State.protects (s : State) (b : Nat) : Prop :=
  (∃ m, s.map = some m ∧ m.alwaysProtects b) ∨
    ∃ n : Fin 64, ((s.clip n).state = .queued ∨ (s.clip n).state = .verifying ∨ (s.clip n).state = .ready) ∧ (s.clip n).has b

/-- No two of a list of ranges share a byte. -/
def spansApart (l : List Span) : Prop :=
  l.Pairwise fun x y => ∀ b, ¬ (x.has b ∧ y.has b)

/-! ## The boot record (sections 1.2 and 11.6) -/

/-- The range of a ring. -/
def Ring.span (q : Ring) : Span :=
  ⟨q.base, 192 * q.cells⟩

/-- The ranges of the map, each row of the table of section 1.2 in its turn. -/
def RegionMap.extents (m : RegionMap) : List Span :=
  ((List.finRange 32).filterMap fun c => m.channelRings[c].map Ring.span) ++
    ((List.finRange 6).map fun f => m.feedRings[f].span) ++
    [m.clipArea, m.logRegion, ⟨m.directiveBase, 4096⟩, ⟨m.directiveBase + 4096, 4⟩, ⟨m.responseBase, 1024⟩,
      ⟨m.responseBase + 1024, 4⟩, ⟨m.responseBase + 1040, 4⟩, m.statusArea]

/-- R3: the sizes and alignments of section 1.2, the ranges wholly below 2^40 and no two sharing a byte. -/
def RegionMap.lawful (m : RegionMap) : Prop :=
  (∀ (c : Fin 32) (q : Ring), m.channelRings[c] = some q → q.base % 64 = 0 ∧ 256 ≤ q.cells ∧ q.cells ≤ 65536) ∧
  (∀ f : Fin 6, m.feedRings[f].base % 64 = 0 ∧ 256 ≤ m.feedRings[f].cells ∧ m.feedRings[f].cells ≤ 65536) ∧
  (m.clipArea.base % 64 = 0 ∧ m.clipArea.size % 64 = 0 ∧ 0 < m.clipArea.size) ∧
  (m.logRegion.base % 4096 = 0 ∧ m.logRegion.size % 4096 = 0 ∧ 4096 ≤ m.logRegion.size ∧ m.logRegion.size ≤ 16777216) ∧
  m.directiveBase % 64 = 0 ∧ m.responseBase % 64 = 0 ∧
  (m.statusArea.base % 64 = 0 ∧ m.statusArea.size % 64 = 0 ∧ 0 < m.statusArea.size) ∧
  (∀ p ∈ m.extents, p.base + p.size ≤ 2 ^ 40) ∧ spansApart m.extents

/-- R33: VIDEO is given, each PID is 0 to 8190, and no two roles share one. -/
def RoleMap.lawful (roles : RoleMap) : Prop :=
  roles[(0 : Fin 6)] ≠ none ∧ (∀ (i : Fin 6) (pid : Nat), roles[i] = some pid → pid ≤ 8190) ∧
    ∀ (i j : Fin 6) (pid : Nat), roles[i] = some pid → roles[j] = some pid → i = j

/-- Section 11.6: the boot values that stand in the record, each field least significant byte first. -/
def BootImage.standsIn (x : BootImage) (record : List Byte) : Prop :=
  let f (off len : Nat) := leField record off len
  (∀ c : Fin 32, x.map.channelRings[c] = if f (13 + 8 * c) 3 = 0 then none else some ⟨f (8 + 8 * c) 5, f (13 + 8 * c) 3⟩) ∧
  (∀ g : Fin 6, x.map.feedRings[g] = ⟨f (264 + 20 * g) 5, f (269 + 20 * g) 3⟩ ∧
    ∀ i : Fin 6, x.feedRoles[g][i] =
      if f (272 + 20 * g + 2 * i) 2 = 0xFFFF then none else some (f (272 + 20 * g + 2 * i) 2)) ∧
  x.map.clipArea = ⟨f 384 8, f 392 8⟩ ∧ x.map.logRegion = ⟨f 400 8, f 408 8⟩ ∧
  x.map.directiveBase = f 416 8 ∧ x.map.responseBase = f 424 8 ∧ x.map.statusArea = ⟨f 432 8, f 440 8⟩ ∧
  x.zones = [f 450 2, f 452 2, f 454 2, f 456 2].take (f 448 1) ∧ x.nominal = f 458 4 ∧
  x.mode = (if f 462 1 = 0 then .mayEmpty else .holdLast) ∧ x.reserve = (if f 463 1 = 0xFF then 10 else f 463 1) ∧
  ∀ g : Fin 8, x.groups[g].toNat = f (464 + 4 * g) 4

/-- R192: the record has the magic, the length and the CRC-32, and each of its fields lies in its values, before anything is asked of
the regions and roles that it describes. -/
def bootFieldsLawful (record : List Byte) : Prop :=
  let f (off len : Nat) := leField record off len
  f 0 4 = 0x31364C42 ∧ f 4 2 = 500 ∧ f 496 4 = (crc32 (record.take 496)).toNat ∧
  (∀ c : Fin 32, f (8 + 8 * c) 5 % 64 = 0) ∧
  (1 ≤ f 448 1 ∧ f 448 1 ≤ 4) ∧ (∀ i < f 448 1, f (450 + 2 * i) 2 ≤ 0xFFFE) ∧ (270 ≤ f 458 4 ∧ f 458 4 ≤ 270000) ∧
  f 462 1 ≤ 1 ∧ (f 463 1 ≤ 64 ∨ f 463 1 = 0xFF)

/-! ## The arbiter (R13, R14) -/

/-- Two byte runs share an address and at least one transaction is a write (R13). -/
def Txn.clash (a b : Txn) : Prop :=
  (a.write = true ∨ b.write = true) ∧ ∃ x, a.addr ≤ x ∧ x < a.addr + a.len ∧ b.addr ≤ x ∧ x < b.addr + b.len

/-- A candidate for grant: not issued, and behind no overlapping transaction that was requested earlier (R13). -/
def Bus.isCandidate (b : Bus) (x : Txn) : Prop :=
  x ∈ b.txns ∧ x.issued = false ∧ ∀ u ∈ b.txns, u.time < x.time → ¬ u.clash x

/-- The one candidate the arbiter turns to: of the highest class, and in it requested before every other (R14). -/
def Bus.turnsTo (b : Bus) (x : Txn) : Prop :=
  b.isCandidate x ∧ ∀ u, b.isCandidate u → u = x ∨ x.cls < u.cls ∨ (x.cls = u.cls ∧ x.time < u.time)

/-! ## Directives in hand (R187) -/

/-- The directive last dispatched is `c`, and its block has not yet taken it. -/
def State.inHand (s : State) (c : Instr) : Prop :=
  s.dir.dispatched = some c

/-- The state once the block has taken the directive in hand. -/
def State.taken (s : State) : State :=
  { s with dir := { s.dir with dispatched := none } }

/-- The commands that are the fifteen directives of chapter 11. -/
def isDirective : Instr → Bool
  | .channelSet _ _ _ => true | .clipLoad _ _ _ => true | .clipFree _ _ _ => true | .bind _ _ _ => true
  | .unbind _ _ _ _ => true | .availAbort _ _ _ _ => true | .windowAdd _ _ _ => true | .windowDrop _ _ _ => true
  | .groupEdit _ _ _ _ _ => true | .alertSend _ _ _ => true | .alertClear _ _ _ => true | .alertMode _ _ _ => true
  | .logClose _ _ => true | .logRestart _ _ => true | .status _ _ _ _ _ => true
  | .powerOn => false | .resetArrival => false | .resetRelease => false | .bootRecordRead _ => false
  | .bootWordReadsComplete _ _ => false | .upstreamWrite _ _ _ _ _ => false | .upstreamRead _ _ _ => false
  | .downstreamGrant => false | .passedTransactionComplete _ _ => false | .ringWriteComplete _ => false
  | .directiveTailWrite _ => false | .responseHeadWrite _ => false | .partialWatchedWrite _ => false | .takeRead _ => false
  | .clipCellArrival _ _ => false | .feedCellArrival _ _ => false | .directiveFetch => false | .fetchComplete _ _ => false
  | .statusWriteComplete _ _ => false | .responseEntryWriteComplete _ _ => false | .responseTailWriteComplete _ _ => false
  | .verifyReadComplete _ _ => false | .batchTimerExpiry => false | .logRecordWriteComplete _ _ => false
  | .markWriteComplete _ _ => false | .attention _ => false | .attentionEnd _ => false | .rateMark _ => false
  | .rateTimeout _ => false | .bodyByte _ => false | .idleLimitExpiry => false | .alertExpiry => false

/-! ## Output reads (R44 to R57) -/

/-- The channel as a read is taken from its ready reads: a malformed network cell is counted (R45). -/
def Channel.taking (ch : Channel) (rest : List ReadyRead) (cell : List Byte) : Channel :=
  { ch with
    ready := rest
    counts := if wellFormed cell then ch.counts else { ch.counts with malformed := sat ch.counts.malformed } }

/-- The channel after a switch, with no read in hand (R53). -/
def Channel.switched (ch : Channel) (src : Source) (delta : Pts) : Channel :=
  { ch with
    source := src
    delta := delta
    continuity := ch.continuity.map fun r => { r with pending := true }
    pcrMark := true }

/-- The channel back in NETWORK, with Δ 0 (R53, R54). -/
def Channel.back (ch : Channel) : Channel :=
  { ch.switched .network 0 with state := .network }

/-- The channel once its avail has ended (R113, R115). -/
def Channel.availOver (ch : Channel) : Channel :=
  match ch.avail with
  | some a => { ch with avail := none, clipAnchor := none, recent := joinRecent 4 ch.recent a.event }
  | none => ch

/-- The channel once a null cell has been counted (R61). -/
def Channel.nulled (ch : Channel) : Channel :=
  { ch with counts := { ch.counts with nulls := sat ch.counts.nulls } }

/-- The read of the in-flight entry `e` is answered with the cell `out`, which leaves channel `c` as `ch`. -/
def State.readAnswered (s : State) (c : Fin 32) (ch : Channel) (e : Entry) (out : List Byte) : State :=
  { s with
    up := s.up ++ [⟨e.tag, .ok out⟩]
    entries := s.entries.filter fun y => y.id ≠ e.id
    channels := s.channels.set c ch }

/-- The read is answered with its network cell `cell`, an entry cell, through the continuity rules (R49). -/
def State.networkAnswered (s : State) (c : Fin 32) (ch : Channel) (e : Entry) (cell : List Byte) : State :=
  s.readAnswered c (ch.emit .video cell).1 e (ch.emit .video cell).2

/-- The read stays in hand for the source cell at `addr`, which is asked for in class 1 (R50, R51). -/
def State.readHeld (s : State) (c : Fin 32) (ch : Channel) (e : Entry) (cell : List Byte) (addr : Nat) (kind : SourceKind)
    (src : Source) : State :=
  { s with
    channels := s.channels.set c { ch with source := src, inHand := some ⟨e.id, cell, s.bus.next, false⟩ }
    bus := { s.bus with
      txns := s.bus.txns ++ [⟨s.bus.next, s.bus.next, 1, false, addr, 192, [], [], .sourceRead c kind, false⟩]
      next := s.bus.next + 1 } }

/-- Channel `c` has nothing in hand, and its first ready read is `r`, of the in-flight entry `e`, with network cell `cell`. -/
def State.takes (s : State) (c : Fin 32) (r : ReadyRead) (rest : List ReadyRead) (e : Entry) (cell : List Byte) : Prop :=
  (s.chan c).inHand = none ∧ (s.chan c).ready = r :: rest ∧ r.answer = .ok cell ∧ s.entry r.entry = some e

/-- No event at the head of the channel's queue is due at N (R102). -/
def Channel.noneDue (ch : Channel) (n : Pts) : Prop :=
  ∀ ev, ch.queue.head? = some ev → atOrAfter n ev.time = false

/-- The earliest of these windows neither has ended by N nor covers N (R124). -/
def State.noWindowAt (s : State) (windows : List (Fin 48)) (n : Pts) : Prop :=
  ∀ id w, windows.head? = some id → s.window id = some w →
    ¬ (w.state = .scheduled ∧ atOrAfter n w.stop = true) ∧ ¬ (atOrAfter n w.start = true ∧ isAfter w.stop n = true)

/-- The index of the cell with absolute number `a` in the ring of feed `f` (R34). -/
def State.feedIndex (s : State) (m : RegionMap) (f : Fin 6) (a : Stamp) (i : Nat) : Prop :=
  (i : Int) = (((s.feed f).next : Int) - ((s.feed f).written - a).toNat) % m.feedRings[f].cells

/-- The feed has a cell of absolute number `a`, written and not lapped (R51). -/
def State.feedHolds (s : State) (m : RegionMap) (f : Fin 6) (a : Stamp) : Prop :=
  a ≠ (s.feed f).written ∧ ((s.feed f).written - a).toNat < m.feedRings[f].cells

/-- The reasons for which an avail returns at a network entry cell, by their codes (R112). -/
def CurrentAvail.returnsFor (a : CurrentAvail) (maxBreak : Nat) (n : Pts) (code : Nat) : Prop :=
  let byCue := ∃ r, a.ret = some (r, .cueIn) ∧ atOrAfter n r = true
  let byBreak := ∃ r, a.ret = some (r, .breakEnd) ∧ a.autoReturn = true ∧ atOrAfter n r = true
  let byLimit := atOrAfter n (a.splice + BitVec.ofNat 33 maxBreak) = true
  (byCue ∧ code = 4) ∨ (byBreak ∧ code = 3) ∨ (¬ byCue ∧ ¬ byBreak ∧ byLimit ∧ code = 5)

/-- The AVAIL_END of an avail that ends at the end point (R114). -/
def CurrentAvail.over (a : CurrentAvail) (c : Fin 32) (code : Nat) (point : Pts) : Record :=
  ⟨.availEnd, c, code, a.event, point.toNat, if point = 0 then 0 else (point - a.splice).toNat⟩

/-- Records handed over one after another. -/
def State.recordAll (s : State) (l : List Record) : State :=
  l.foldl State.record s

/-- The state once the event at the head of the queue of channel `c` is retired at N with its lateness, `more` being the rest of the
queue and `why` the code of the reason (R103). -/
def State.headMissed (s : State) (c : Fin 32) (ev : AvailEvent) (more : List AvailEvent) (why : Nat) (n : Pts) : State :=
  { s.record ⟨.eventMissed, c, why, ev.event, ev.time.toNat, (n - ev.time).toNat⟩ with
    channels := s.channels.set c { s.chan c with queue := more, recent := joinRecent 4 (s.chan c).recent ev.event } }

/-- The state once the window `id` of channel `c` is removed at N, `why` being the code of the reason (R120, R134). -/
def State.windowGone (s : State) (c : Fin 32) (id : Fin 48) (w : Window) (why : Nat) (n : Pts) : State :=
  { s.record ⟨.windowEnd, c, why, id, n.toNat, w.stop.toNat⟩ with
    windows := s.windows.set id none
    channels := s.channels.set c { s.chan c with
      windows := (s.chan c).windows.filter fun k => k ≠ id
      window := if (s.chan c).window = some id then none else (s.chan c).window } }

/-- The records made as the channel is taken out of INSERT between entry cells: CLIP_END CUT of the clip it plays, and AVAIL_END
with the reason of this code (R42, R115). -/
def State.cutRecords (s : State) (c : Fin 32) (code : Nat) : List Record :=
  if (s.chan c).state = .insert then
    (match (s.chan c).source with
      | .clip n i => [⟨.clipEnd, c, 2, n, i, (s.clip n).cells⟩]
      | _ => []) ++
    (match (s.chan c).avail with
      | some a => [a.over c code ((s.chan c).outPts.getD 0)]
      | none => [])
  else []

/-! ## Ring writes and cues (R26, R84) -/

/-- `y` is a whole cell of the write `x`: a cell of a ring of the map, with all its 192 bytes in the run and enabled (R26). -/
def RegionMap.holdsWhole (m : RegionMap) (x : Txn) (y : WholeCell) : Prop :=
  (∃ r : Ring, ((∃ c, y.ring = .channel c ∧ m.channelRings[c] = some r) ∨ (∃ f, y.ring = .feed f ∧ m.feedRings[f] = r)) ∧
    y.index < r.cells ∧ y.addr = r.base + 192 * y.index) ∧
  x.addr ≤ y.addr ∧ (∀ k < 192, x.enables[y.addr - x.addr + k]? = some true) ∧
  y.bytes = (x.data.drop (y.addr - x.addr)).take 192

/-! ## Channels into and out of ALERT (R129, R131, R159, R163) -/

/-- The channel with its cursor placed on a feed on an immediate anchor, and its read in hand orphaned (R44, R52, R54). -/
def Channel.cursorOn (ch : Channel) (f : Fin 6) (latest : Option (Stamp × Pts)) : Channel :=
  let orphaned := ch.inHand.map fun r => { r with orphaned := true }
  match latest with
  | none => { ch with source := .feed f none, inHand := orphaned }
  | some (e, p) => { ch.switched (.feed f (some e)) (ch.outPts.getD p - p) with inHand := orphaned }

/-- The channel in RETURN_WAIT, its read in hand orphaned (R48). -/
def Channel.waiting (ch : Channel) : Channel :=
  { ch with
    state := .returnWait
    source := .none
    nullCount := 0
    inHand := ch.inHand.map fun r => { r with orphaned := true } }

/-- The enabled channel leaves ALERT as its alert's target set gives way to another (R163). -/
def State.leaves (s : State) (old new : ChannelMask) (c : Fin 32) : Bool :=
  (s.chan c).state != .off && old.getLsbD c && !new.getLsbD c

/-- The enabled channel is taken into ALERT (R159, R163). -/
def State.enters (s : State) (old new : ChannelMask) (c : Fin 32) : Bool :=
  (s.chan c).state != .off && !old.getLsbD c && new.getLsbD c

/-- The enabled channel stays in ALERT and changes feed (R163). -/
def State.changesFeed (s : State) (old new : ChannelMask) (oldFeed newFeed : Fin 2) (c : Fin 32) : Bool :=
  (s.chan c).state != .off && old.getLsbD c && new.getLsbD c && oldFeed != newFeed

/-- The record of the channel's current window. -/
def State.currentWindow (s : State) (c : Fin 32) : Option Window :=
  (s.chan c).window.bind s.window

/-- The channel after it has left ALERT: in SUBST on the feed of its suspended window, or in RETURN_WAIT (R131). -/
def State.leftAlert (s : State) (c : Fin 32) : Channel :=
  match s.currentWindow c with
  | some w => { s.chan c with state := .subst }.cursorOn (localFeed w.feed) (s.feed (localFeed w.feed)).latest
  | none => (s.chan c).waiting

/-- The channel after it has been taken into ALERT: a playing avail is over (R115, R159). -/
def State.enteredAlert (s : State) (feed : Fin 2) (c : Fin 32) : Channel :=
  let ch := if (s.chan c).state = .insert then (s.chan c).availOver else s.chan c
  { ch with state := .alert }.cursorOn (alertFeed feed) (s.feed (alertFeed feed)).latest

/-- What becomes of a channel when the target set `old` of an alert gives way to `new` (R159, R162, R163). -/
def State.movedChannel (s : State) (old new : ChannelMask) (oldFeed newFeed : Fin 2) (c : Fin 32) : Channel :=
  if s.leaves old new c then s.leftAlert c
  else if s.enters old new c then s.enteredAlert newFeed c
  else if s.changesFeed old new oldFeed newFeed c then
    (s.chan c).cursorOn (alertFeed newFeed) (s.feed (alertFeed newFeed)).latest
  else s.chan c

/-- What becomes of a window record: the ACTIVE window of a channel taken into ALERT is SUSPENDED, and that of a channel that leaves
ALERT is ACTIVE again (R129, R131). -/
def State.movedWindow (s : State) (old new : ChannelMask) (id : Fin 48) : Option Window :=
  (s.window id).map fun w =>
    if (List.finRange 32).any fun c => s.leaves old new c && (s.chan c).window == some id then { w with state := .active }
    else if (List.finRange 32).any fun c => s.enters old new c && (s.chan c).state == .subst && (s.chan c).window == some id then
      { w with state := .suspended }
    else w

/-- The clip the channel plays, if any. -/
def Channel.playsClip (ch : Channel) (n : Fin 64) : Bool :=
  ch.state == .insert && match ch.source with
    | .clip k _ => k == n
    | _ => false

/-- What becomes of a clip record: each channel taken into ALERT that plays the clip takes one play from it (R77). -/
def State.movedClip (s : State) (old new : ChannelMask) (n : Fin 64) : Clip :=
  { s.clip n with
    plays := (s.clip n).plays -
      ((List.finRange 32).filter fun c => s.enters old new c && (s.chan c).playsClip n).length }

/-- The records made as the channel is taken into ALERT: CLIP_END CUT and AVAIL_END ALERT of an avail that plays (R115). -/
def State.enterRecords (s : State) (c : Fin 32) : List Record :=
  s.cutRecords c 8

/-- The record made as the channel leaves ALERT: WINDOW_START, RESUMED or RESUMED_WAITING, of the window that resumes (R131). -/
def State.leaveRecords (s : State) (c : Fin 32) : List Record :=
  match (s.chan c).window, s.currentWindow c with
  | some id, some w =>
    match (s.feed (localFeed w.feed)).latest with
    | some (_, p) =>
      [⟨.windowStart, c, 3, id, ((s.chan c).netPts.getD 0).toNat, ((s.chan c).outPts.getD p - p).toNat⟩]
    | none => [⟨.windowStart, c, 4, id, ((s.chan c).netPts.getD 0).toNat, 0⟩]
  | _, _ => []

/-- All that becomes of the channels, the windows and the clips when the target set `old` of an alert on `oldFeed` gives way to
`new` on `newFeed`, with the records of each channel in ascending channel number (R159, R162, R163). An empty `old` is an activation
with no alert before it, an empty `new` the end of an alert with none after it. -/
def State.alertMoves (s : State) (old new : ChannelMask) (oldFeed newFeed : Fin 2) : State :=
  { s.recordAll ((List.finRange 32).flatMap fun c =>
      if s.leaves old new c then s.leaveRecords c else if s.enters old new c then s.enterRecords c else []) with
    channels := Vector.ofFn (s.movedChannel old new oldFeed newFeed)
    windows := Vector.ofFn (s.movedWindow old new)
    clips := Vector.ofFn (s.movedClip old new) }

/-- The ALERT_START of a context for a channel, 255 at an activation, with the code of its reason (R160): its target set, and its
duration in seconds, its level and its feed. -/
def AlertContext.starts (x : AlertContext) (channel reason : Nat) : Record :=
  ⟨.alertStart, channel, reason, x.alert, (x.target.getD 0).toNat,
    x.duration.getD 0 / 27000000 + 65536 * x.level + 262144 * x.feed⟩

/-- The code of a context's source as the reason of its ALERT_START (R160). -/
def AlertContext.reason (x : AlertContext) : Nat :=
  if x.source = .line then 1 else 2

/-- The ALERT_END of a context that ends at house time `house`, with the code of its reason (R164): the whole seconds since its
activation time, which a QUEUED context does not have (R153), and the code of the state it ends from. -/
def AlertContext.ends (x : AlertContext) (reason house : Nat) : Record :=
  ⟨.alertEnd, 255, reason, x.alert, (x.activated.map fun t => (house - t) / 27000000).getD 0,
    if x.state = .active then 1 else if x.state = .held then 2 else 3⟩

/-- The union of the groups that a group mask names (R158). -/
def AlertControl.unites (a : AlertControl) (groupMask : BitVec 8) (set : ChannelMask) : Prop :=
  ∀ c : Fin 32, set.getLsbD c = true ↔ ∃ g : Fin 8, groupMask.getLsbD g = true ∧ a.groups[g].getLsbD c = true

/-! ## LOG_CLOSE directives that wait (R182) -/

/-- A LOG_CLOSE no longer waits for these batches; `failed` says that they were abandoned. -/
def CloseWait.without (failed : Bool) (gone : List Nat) (w : CloseWait) : CloseWait :=
  { w with
    batches := w.batches.filter fun b => b ∉ gone
    failed := w.failed || (failed && w.batches.any fun b => b ∈ gone) }

/-- These batches have left the closing list, and the LOG_CLOSE directives that wait for nothing more are answered, several of them
in the order in which they were taken (DESIGN CHOICE, log entry 34). -/
def State.closesAnswered (s : State) (failed : Bool) (gone : List Nat) : State :=
  let waits := s.log.waits.map (CloseWait.without failed gone)
  (waits.filter fun w => w.batches = []).foldl
    (fun s w => s.respond w.ticket.seq 13 (if w.failed then .failed else .done) (if w.failed then 1 else 0) w.ticket.slot)
    { s with log := { s.log with waits := waits.filter fun w => w.batches ≠ [] } }

/-! ## Records and marks (sections 10.2 and 10.3) -/

/-- The kinds of record in the order of their codes, which begin at 1. -/
def recordKinds : List RecordKind :=
  [.availStart, .availEnd, .clipStart, .clipEnd, .eventMissed, .cueUnbound, .cueLost, .windowStart, .windowEnd, .alertStart,
    .alertEnd, .alertMessageBad, .clipReady, .clipFailed, .feedSlip, .clockUnsteady, .clockSteady, .writeRefused, .returnForced,
    .logRestarted]

/-- The 32 bytes of a log record handed over at house time `house`, with its sequence number, the number of its batch and its place
there: the table of section 10.2, each field least significant byte first. -/
def isLogRecord (bytes : List Byte) (r : Record) (house sequence batch position : Nat) : Prop :=
  let f (off len : Nat) := leField bytes off len
  bytes.length = 32 ∧ f 0 1 = 1 + recordKinds.idxOf r.kind ∧ f 1 1 = r.channel % 256 ∧ f 2 1 = r.reason % 256 ∧
    f 3 1 = r.first / 2 ^ 32 % 2 + 2 * (r.second / 2 ^ 32 % 2) ∧ f 4 8 = house % 2 ^ 64 ∧ f 12 4 = r.subject % 2 ^ 32 ∧
    f 16 4 = r.first % 2 ^ 32 ∧ f 20 4 = r.second % 2 ^ 32 ∧ f 24 4 = sequence % 2 ^ 32 ∧ f 28 2 = batch % 65536 ∧
    f 30 1 = position % 256 ∧ f 31 1 = 0

/-- The 16 bytes of the mark of a batch: the two magic bytes, the check byte that makes all sixteen XOR to 0, and the batch's count,
number, first sequence, first-record offset and check. -/
def isMark (mark : List Byte) (first number firstSeq count : Nat) (check : BitVec 32) : Prop :=
  mark.length = 16 ∧ mark.foldl (fun x y => x ^^^ y) 0 = 0 ∧ mark.take 2 = [0x5B#8, 0x4C#8] ∧
    mark.drop 3 = leBytes 1 count ++ leBytes 2 number ++ leBytes 2 firstSeq ++ leBytes 4 first ++ leBytes 4 check.toNat

/-! ## The words of a snapshot (R190, R191)

A word is a number of which the snapshot holds the low 32 bits. Where R191 leaves a place to inference, log entry 16 says what the
layout takes. -/

/-- The two words of a value of 33 to 64 bits. -/
def wordPair (v : Nat) : List Nat :=
  [v, v / 2 ^ 32]

/-- All ones in `n` words. -/
def wordsAbsent (n : Nat) : List Nat :=
  List.replicate n 0xFFFFFFFF

/-- A value of one word that may be absent. -/
def wordOr (v : Option Nat) : List Nat :=
  [v.getD 0xFFFFFFFF]

/-- A value of two words that may be absent. -/
def wordPairOr (v : Option Nat) : List Nat :=
  (v.map wordPair).getD (wordsAbsent 2)

/-- A flag. -/
def wordFlag (b : Bool) : Nat :=
  if b then 1 else 0

/-- A list: its count, its entries, and the places beyond the count. -/
def wordList (places size : Nat) (entries : List (List Nat)) : List Nat :=
  entries.length :: ((entries.take places).flatten ++ wordsAbsent ((places - entries.length) * size))

/-- The bytes of a snapshot with these words over `n` words. -/
def snapshotBytes (words : List Nat) (n : Nat) : List Byte :=
  ((words ++ List.replicate n 0).take n).flatMap fun w => leBytes 4 w

/-- A source: kind, clip or feed number, next cell index or cursor. -/
def Source.words : Source → List Nat
  | .network => [0] ++ wordsAbsent 2
  | .clip n i => [1, n.val, i]
  | .feed f (some a) => [2, f.val, a.toNat]
  | .feed f .none => [2, f.val] ++ wordsAbsent 1
  | .none => [3] ++ wordsAbsent 2

/-- An alert context, its fields in the order of section 9.1. -/
def AlertContext.words (x : AlertContext) : List Nat :=
  [x.alert, x.level, 1 + [AlertSource.line, .host].idxOf x.source, x.groupMask.toNat, 4 + x.feed.val] ++ wordPairOr x.duration ++
    [1 + [AlertState.active, .held, .queued].idxOf x.state] ++ wordOr (x.target.map BitVec.toNat) ++ wordPairOr x.activated

/-- When the context expires: its activation time and its duration after it; never when it is open-ended (R162). -/
def AlertContext.expires (x : AlertContext) : Option Nat :=
  x.activated.bind fun t => x.duration.map fun d => t + d

/-- A feed tracker (R36). -/
def FeedTracker.words (t : FeedTracker) : List Nat :=
  [t.written.toNat, t.next] ++ wordOr (t.latest.map fun e => e.1.toNat) ++ wordPairOr (t.latest.map fun e => e.2.toNat) ++
    [t.malformed, t.breaks]

/-- The role's continuity state (R58). -/
def Continuity.words (r : Continuity) : List Nat :=
  wordOr (r.last.map BitVec.toNat) ++ [r.k.toNat, wordFlag r.pending]

/-- The DEVICE contents of R190, up to the feeds (R82, R136). -/
def State.unitWords (s : State) : List Nat :=
  [s.refusedWrites, s.dir.head, s.dir.tail, s.dir.responseHead, s.dir.responseTail, s.dir.unconsumed, s.dir.published, s.dir.owed,
    s.dir.ignoredTails, s.dir.ignoredHeads, s.dir.fetchErrors, s.dir.writeErrors] ++
  ([ClipState.free, .queued, .verifying, .ready, .failed].map fun st => (List.finRange 64).countP fun n => (s.clip n).state = st) ++
  wordList 64 1 (s.verifyQueue.map fun n => [n.val]) ++
  wordOr (((List.finRange 64).find? fun n => (s.clip n).state = .verifying).map Fin.val) ++
  [(List.finRange 48).countP fun id => s.window id ≠ none] ++ ((List.finRange 6).flatMap fun f => (s.feed f).words)

/-- The alert receiver (R151): a byte of the buffer that has not been received is a free value (log entry 17). -/
def Receiver.words (r : Receiver) : List Nat :=
  let byte (i : Nat) : Byte := (r.buffer[i]?).getD (Config.unreceivedByte i)
  [[ReceiverState.waitAttention, .attention, .rateMark, .body, .standby].idxOf r.state] ++ wordOr r.period ++ [r.buffer.length] ++
  ([0, 4, 8].map fun i => leNat [byte i, byte (i + 1), byte (i + 2), byte (i + 3)]) ++
  [r.counts.noise, r.counts.rate, r.counts.framing, r.counts.truncated, r.counts.check, r.counts.field, r.counts.notOurs,
    r.counts.delivered]

/-- The alert controller (R169). -/
def AlertControl.words (a : AlertControl) : List Nat :=
  ((a.current.map fun x => x.words ++ wordPairOr x.expires).getD (wordsAbsent 13)) ++
  wordList 4 11 (a.queue.map AlertContext.words) ++ wordList 8 1 (a.recent.map fun x => [x]) ++
  ((List.finRange 8).map fun g => a.groups[g].toNat) ++ [[QueueMode.mayEmpty, .holdLast].idxOf a.mode, a.duplicates]

/-- The log writer's figures, in the order of R185 (log entry 16). -/
def LogWriter.words (l : LogWriter) : List Nat :=
  [l.size, l.fo, l.floor, 1 + [LogState.open, .full, .stopped].idxOf l.state, (l.floor - l.fo - 16) / 32, l.withheld, l.batchNumber,
    l.sequence] ++
  wordOr (l.batch.map OpenBatch.number) ++ wordOr (l.batch.map OpenBatch.count) ++ wordPairOr (l.batch.map OpenBatch.opened) ++
  [l.closing.length]

/-- A pod. -/
def podWords (pod : List (Fin 64)) : List Nat :=
  wordList 4 1 (pod.map fun n => [n.val])

/-- The current avail, its fields in the order of section 6.1. -/
def CurrentAvail.words (a : CurrentAvail) : List Nat :=
  [a.event, a.avail] ++ wordPair a.splice.toNat ++ wordPairOr (a.ret.map fun r => r.1.toNat) ++
    wordOr (a.ret.map fun r => [ReturnKind.breakEnd, .cueIn].idxOf r.2) ++ [wordFlag a.autoReturn] ++ podWords a.pod ++ [a.podIndex]

/-- A queued event, its fields in the order of section 5.3. -/
def AvailEvent.words (e : AvailEvent) : List Nat :=
  [e.event] ++ wordPair e.time.toNat ++ wordOr e.duration ++ [wordFlag e.autoReturn, e.avail] ++ podWords e.pod ++
    wordPairOr (e.ret.map BitVec.toNat)

/-- A window of a channel: id, feed, start, end, state (R136). -/
def State.windowWords (s : State) (id : Fin 48) : List Nat :=
  ((s.window id).map fun w => [id.val, w.feed.val] ++ wordPair w.start.toNat ++ wordPair w.stop.toNat ++
    [[WindowState.scheduled, .active, .suspended].idxOf w.state]).getD (wordsAbsent 7)

/-- The configuration of a channel (R38). -/
def ChannelConfig.words (g : ChannelConfig) : List Nat :=
  ((List.finRange 6).flatMap fun i => wordOr g.roles[i]) ++ wordOr g.cuePid ++
  [[FullPolicy.keep, .earliest].idxOf g.policy, g.lateTolerance, g.maxBreak, g.returnLimit, g.clockTolerance]

/-- The counts of R61. -/
def ChannelCounts.words (c : ChannelCounts) : List Nat :=
  [c.duplicates, c.cueBad, c.nulls, c.underflows, c.slips, c.readErrors, c.misaligned, c.malformed]

/-- The channel contents of R190 that are the channel's own. -/
def Channel.words (ch : Channel) : List Nat :=
  ch.config.words ++ [[ChannelState.off, .network, .insert, .subst, .alert, .returnWait].idxOf ch.state] ++ ch.source.words ++
  ((ch.avail.map CurrentAvail.words).getD (wordsAbsent 14)) ++ wordPairOr (ch.clipAnchor.map BitVec.toNat) ++
  wordOr (ch.window.map Fin.val) ++ wordPair ch.delta.toNat ++ ((List.finRange 6).flatMap fun i => ch.continuity[i].words) ++
  [wordFlag ch.pcrMark] ++ wordPairOr (ch.outPts.map BitVec.toNat) ++ wordPairOr (ch.netPts.map BitVec.toNat) ++
  [ch.nullCount, [ClockStatus.unseen, .unsteady, .steady].idxOf ch.clock.status, ch.clock.settle] ++
  wordPairOr (ch.ingestPts.map BitVec.toNat) ++ wordList 4 13 (ch.queue.map AvailEvent.words) ++
  wordList 4 1 (ch.recent.map fun x => [x])

/-- The clip contents of R190 (R82). -/
def Clip.words (x : Clip) : List Nat :=
  [[ClipState.free, .queued, .verifying, .ready, .failed].idxOf x.state] ++ wordPair x.base ++ [x.cells, x.expectedCrc.toNat] ++
  wordList 8 2 (x.map.map fun e => [e.1, [Role.video, .audio1, .audio2, .audio3, .data1, .data2].idxOf e.2]) ++
  wordPairOr (x.p0.map BitVec.toNat) ++ wordOr x.period ++ wordPairOr (x.pMax.map BitVec.toNat) ++ wordOr x.duration ++
  wordPairOr x.firstPcr ++ [x.plays] ++
  wordOr (x.failure.map fun w => 1 + [ClipFailure.badCell, .noEntry, .timing, .noClock, .crcMismatch, .memoryError].idxOf w) ++
  [x.cursor]

/-- The words of a snapshot of this scope. -/
def State.snapshotWords (s : State) : Scope → List Nat
  | .device => s.unitWords ++ s.receiver.words ++ s.alerts.words ++ s.log.words
  | .channel c => (s.chan c).words ++ wordList 48 7 ((s.chan c).windows.map s.windowWords) ++ (s.chan c).counts.words ++
      [(s.chan c).malformedIngest]
  | .clip n => (s.clip n).words

/-! ## Invariants -/

/-- R1: at most 64 entries; the part's tags each name one transaction and one entry, and a new tag names neither (R2). -/
def State.tagsApart (s : State) : Prop :=
  s.entries.length ≤ 64 ∧ (s.entries.map Entry.id).Nodup ∧ (∀ e ∈ s.entries, e.id < s.bus.next) ∧
    (s.bus.txns.map Txn.id).Nodup ∧ (∀ x ∈ s.bus.txns, x.id < s.bus.next ∧ x.time < s.bus.next)

/-- R176 to R178: records grow up from the region's base in 32-byte steps and marks down from its end, an open batch of an OPEN
log holds 1 to 15 records and has room for its mark, and every mark of the closing list lies between the floor and the end. -/
def LogWriter.inPlace (l : LogWriter) : Prop :=
  l.fo % 32 = 0 ∧ l.fo ≤ l.floor ∧ l.floor ≤ l.size ∧
    (∀ b, l.batch = some b → l.state = .open ∧ l.fo + 16 ≤ l.floor ∧ 1 ≤ b.count ∧ b.count ≤ 15) ∧
    ∀ c ∈ l.closing, l.floor ≤ c.mark ∧ c.mark + 16 ≤ l.size

/-- R89, R93, R96: at most four queued events and four recent ids, each id in one place: queued, playing or recent. -/
def Channel.eventsApart (ch : Channel) : Prop :=
  ch.queue.length ≤ 4 ∧ ch.recent.length ≤ 4 ∧
    (ch.queue.map AvailEvent.event ++ ch.avail.toList.map CurrentAvail.event ++ ch.recent).Nodup

/-- R153, R154, R156, R157, R162: at most four queued contexts behind an ACTIVE one, at most eight recent ids, each alert id in one
context, the queued contexts without a target set and an activation time, and the current context ACTIVE or HELD with both. -/
def AlertControl.inOrder (a : AlertControl) : Prop :=
  a.queue.length ≤ 4 ∧ a.recent.length ≤ 8 ∧ a.recent.Nodup ∧
    ((a.current.toList ++ a.queue).map AlertContext.alert).Nodup ∧ (∀ x ∈ a.queue, x.state = .queued ∧ x.target = none ∧ x.activated = none) ∧
    (a.current = none → a.queue = []) ∧
    ∀ x, a.current = some x →
      (x.state = .active ∨ (x.state = .held ∧ a.queue = [])) ∧ x.target.isSome = true ∧ x.activated.isSome = true

/-- R64: no two clips that are not FREE share a byte of memory. -/
def State.clipsApart (s : State) : Prop :=
  ∀ n k : Fin 64, n ≠ k → (s.clip n).state ≠ .free → (s.clip k).state ≠ .free →
    ∀ b, ¬ ((s.clip n).has b ∧ (s.clip k).has b)

/-- R66, R67: at most one clip is VERIFYING, the verify queue holds each QUEUED clip once and waits only behind a VERIFYING one,
and the verification read that the pass awaits is made for the VERIFYING clip. At most one verification read is outstanding, and
while a clip is VERIFYING one is: its own, or that of a pass that CLIP_FREE ended (log entry 31). -/
def State.oneVerifies (s : State) : Prop :=
  (∀ n k : Fin 64, (s.clip n).state = .verifying → (s.clip k).state = .verifying → n = k) ∧
    s.verifyQueue.Nodup ∧ (∀ n : Fin 64, n ∈ s.verifyQueue ↔ (s.clip n).state = .queued) ∧
    (s.verifyQueue ≠ [] → ∃ n : Fin 64, (s.clip n).state = .verifying) ∧
    (∀ x ∈ s.bus.txns, s.verifyRead = some x.id → ∃ n : Fin 64, x.owner = .verify n ∧ (s.clip n).state = .verifying) ∧
    (∀ id, s.verifyRead = some id → id < s.bus.next) ∧
    (s.bus.txns.filter fun x => x.owner.verifies).length ≤ 1 ∧
    ((∃ n : Fin 64, (s.clip n).state = .verifying) → ∃ x ∈ s.bus.txns, x.owner.verifies = true)

/-- R120, R121: a channel's list names, once each, exactly the window records of that channel, and its current window is one of
them. -/
def State.windowsListed (s : State) : Prop :=
  ∀ c : Fin 32, (s.chan c).windows.Nodup ∧
    (∀ id : Fin 48, id ∈ (s.chan c).windows ↔ ∃ w, s.window id = some w ∧ w.channel = c) ∧
    ∀ id : Fin 48, (s.chan c).window = some id → id ∈ (s.chan c).windows

/-- R78, R79: no two bindings of a channel have one key. -/
def State.keysApart (s : State) : Prop :=
  ∀ (c : Fin 32) (i j : Fin 8) (a b : Binding), (s.bindingTable c)[i] = some a → (s.bindingTable c)[j] = some b →
    a.key = b.key → i = j

/-- The heads and tails of the two rings name slots 0 to 63 (section 11.2, R186, R188, R189). -/
def DirectiveUnit.inRings (d : DirectiveUnit) : Prop :=
  d.head < 64 ∧ d.tail < 64 ∧ d.responseHead < 64 ∧ d.responseTail < 64

end Sys2Proof.Machine
end

