-- ==== Sys2Proof/Certificates/Slice0/Obligations.lean ====
section
/-! DEFINITION. The statements for the provers. -/

section
open Sys2Proof Sys2Proof.Machine

/-! ## A step -/

/-- A step takes the command at the front of the queue and runs it with the queue's rest (log entries 1 and 26: the order of the
queue is the order of the events). With nothing commanded a step is one REFCLK tick: the house counter counts one, except while
RESET is low (R194; that the tick is the step on an empty queue is the model's choice, log entry 3). -/
def Obligations.StepRunsTheFrontCommand : Prop :=
  ∀ s : State,
    (∀ c rest, s.pending = c :: rest → step s = exec c { s with pending := rest }) ∧
    (s.pending = [] → s.boot = .held → step s = .next s) ∧
    (s.pending = [] → s.boot ≠ .held → step s = .next { s with house := s.house + 1 })

/-- No command stops the part, and none touches the queue of the commands that wait. A directive that is not the one in hand changes
nothing (the model's choice, log entries 6 and 8: a command whose enabling condition does not hold is no event). -/
def Obligations.EveryCommandCompletesAndKeepsTheQueue : Prop :=
  ∀ (c : Instr) (s : State),
    (∃ t, exec c s = .next t ∧ t.pending = s.pending) ∧ (isDirective c = true → ¬ s.inHand c → exec c s = .next s)

/-! ## Reset and boot -/

/-- R17, R192, R194: POWER_ON and a RESET arrival put every block in its reset state. Of the old state there remain the commands
that wait, the responses returned, the upstream transactions, which finish as pass-through, and the part's own issued transactions,
whose responses will be discarded. A network fetch finishes as the read itself, and an eligible read whose fetch is answered is
answered with what the fetch returned. The model's choices in this are the values that the spec gives only from a boot on (log entry
2), the list of responses returned (log entry 11), the answers to the reads whose fetch is answered (log entry 12), the issued
transactions kept to be discarded (log entry 20), the settle count of an UNSEEN tracker (log entry 30), and that POWER_ON, too,
keeps the transactions under way (log entry 28). -/
def Obligations.ResetPutsEveryBlockInItsResetState : Prop :=
  ∀ (s : State) (c : Instr) (phase : BootPhase) (line : Bool),
    (c = .powerOn ∧ phase = .readingRecord ∧ line = false) ∨ (c = .resetArrival ∧ phase = .held ∧ line = s.faultLine) →
    ∃ t, exec c s = .next t ∧
      { t with pending := [], entries := [], up := [], bus := State.reset.bus } =
        { State.reset with boot := phase, faultLine := line } ∧
      t.pending = s.pending ∧ t.bus.next = s.bus.next ∧
      (∀ x, x ∈ t.bus.txns ↔ ∃ y ∈ s.bus.txns,
        (y.owner = .upstream ∧ x = y) ∨ (y.owner = .networkFetch ∧ x = { y with owner := .upstream }) ∨
          (y.owner ≠ .upstream ∧ y.owner ≠ .networkFetch ∧ y.issued = true ∧ x = { y with owner := .stale })) ∧
      (∀ e, e ∈ t.entries ↔ ∃ e' ∈ s.entries,
        (∀ c, ∀ r ∈ (s.chan c).answered, r.entry ≠ e'.id) ∧ e = { e' with treatment := Treatment.pass }) ∧
      (∃ more, t.up = s.up ++ more) ∧
      (((s.channels.toList.flatMap Channel.answered).map ReadyRead.entry).Nodup → (s.entries.map Entry.id).Nodup →
        ∀ c, ∀ r ∈ (s.chan c).answered, ∀ e ∈ s.entries, e.id = r.entry →
          ⟨e.tag, UpResult.ofAnswer r.answer⟩ ∈ t.up)

/-- R192, R193: the rising edge of RESET begins a boot, with FAULT deasserted. A boot record that passes its tests is kept, and the
two words are asked for together in class 3; any other is a boot fault. That an edge with RESET already high is no event (log entry
6), and that the two words share one request time (log entry 10), are the model's choices. -/
def Obligations.BootsBeginAndReadTheirRecord : Prop :=
  ∀ (s : State) (r : List Byte),
    (s.boot = .held → exec .resetRelease s = .next { s with boot := .readingRecord, faultLine := false }) ∧
    (s.boot ≠ .held → exec .resetRelease s = .next s) ∧
    (∀ x, s.boot = .readingRecord → parseBoot r = some x →
      exec (.bootRecordRead r) s = .next { s with
        boot := .readingWords
        image := some x
        bus := { s.bus with
          txns := s.bus.txns ++
            [⟨s.bus.next, s.bus.next, 3, false, x.map.directiveBase + 4096, 4, [], [], .bootTail, false⟩,
              ⟨s.bus.next + 1, s.bus.next, 3, false, x.map.responseBase + 1024, 4, [], [], .bootHead, false⟩]
          next := s.bus.next + 2 } }) ∧
    (s.boot = .readingRecord → parseBoot r = none →
      exec (.bootRecordRead r) s = .next { s with boot := .faulted, faultLine := true, image := none })

/-- R3, R33, R192: the map of an accepted boot record has its ranges apart and below 2^40, with the sizes and alignments of section
1.2; its feeds each have VIDEO. A record of 500 bytes is accepted, and gives these boot values, exactly when they stand in it by the
layout of section 11.6, its magic, length and CRC-32 are right, each field lies in its values, each feed has VIDEO and no PID for
two roles, and the regions have the sizes and alignments of section 1.2, lie wholly below 2^40 and share no byte. -/
def Obligations.AcceptedBootRecordsLayOutDisjointRegions : Prop :=
  (∀ (r : List Byte) (x : BootImage), parseBoot r = some x →
    spansApart x.map.ranges ∧ (∀ p ∈ x.map.ranges, p.base + p.size ≤ 2 ^ 40) ∧
    (∀ (c : Fin 32) (q : Ring), x.map.channelRings[c] = some q → q.base % 64 = 0 ∧ 256 ≤ q.cells ∧ q.cells ≤ 65536) ∧
    (∀ f : Fin 6, x.map.feedRings[f].base % 64 = 0 ∧ 256 ≤ x.map.feedRings[f].cells ∧ x.map.feedRings[f].cells ≤ 65536 ∧
      x.feedRoles[f][(0 : Fin 6)].isSome = true) ∧
    (x.map.clipArea.base % 64 = 0 ∧ x.map.clipArea.size % 64 = 0 ∧ 0 < x.map.clipArea.size) ∧
    (x.map.logRegion.base % 4096 = 0 ∧ x.map.logRegion.size % 4096 = 0 ∧ 4096 ≤ x.map.logRegion.size ∧
      x.map.logRegion.size ≤ 16777216) ∧
    x.map.directiveBase % 64 = 0 ∧ x.map.responseBase % 64 = 0 ∧
    (x.map.statusArea.base % 64 = 0 ∧ x.map.statusArea.size % 64 = 0 ∧ 0 < x.map.statusArea.size)) ∧
  ∀ (r : List Byte) (x : BootImage), r.length = 500 →
    (parseBoot r = some x ↔
      x.standsIn r ∧ bootFieldsLawful r ∧ x.map.lawful ∧ ∀ f : Fin 6, x.feedRoles[f].lawful)

/-- R137, R193: both words read OK end the boot. The blocks take their boot values, the receiver begins reading its line, a word's
value of 64 or more is taken as 0 and counted, U, P and Q start at 0, and READY is handed over at the response tail; an ERROR on
either word is a boot fault. The model's choices in this are that the two counts stay at 65,535 (log entry 27), that one command
carries both words (log entry 10), and the values that the zones, the nominal period and the log figures had before the boot (log
entry 2). -/
def Obligations.BootEndsWithReady : Prop :=
  ∀ (s : State) (x : BootImage) (a b : Answer), s.boot = .readingWords → s.image = some x →
    (∃ u ∈ s.bus.txns, u.owner = .bootTail ∧ u.issued = true) → (∃ u ∈ s.bus.txns, u.owner = .bootHead ∧ u.issued = true) →
    (a = .error ∨ b = .error → exec (.bootWordReadsComplete a b) s = .next { s with
      boot := .faulted
      faultLine := true
      image := none
      bus := { s.bus with txns := s.bus.txns.filter fun u => u.owner ≠ .bootTail ∧ u.owner ≠ .bootHead } }) ∧
    (∀ tail head, a = .ok tail → b = .ok head →
      ∃ t, exec (.bootWordReadsComplete a b) s = .next t ∧
        t = { s with
          boot := .running
          map := some x.map
          feeds := t.feeds
          receiver := { s.receiver with zones := x.zones, nominal := x.nominal, readingFrom := some s.house }
          alerts := { s.alerts with groups := x.groups, mode := x.mode }
          log := t.log
          dir := t.dir
          bus := t.bus } ∧
        (∀ f : Fin 6, t.feed f = { FeedTracker.reset with roles := x.feedRoles[f] }) ∧
        t.log = { LogWriter.reset with
          base := x.map.logRegion.base
          size := x.map.logRegion.size
          floor := x.map.logRegion.size
          reserve := x.reserve
          run := s.log.run + 1 } ∧
        t.dir = { s.dir with
          head := if leField tail 0 4 < 64 then leField tail 0 4 else 0
          tail := if leField tail 0 4 < 64 then leField tail 0 4 else 0
          responseHead := if leField head 0 4 < 64 then leField head 0 4 else 0
          responseTail := ((if leField head 0 4 < 64 then leField head 0 4 else 0) + 1) % 64
          unconsumed := 1
          published := 0
          owed := 0
          ignoredTails := if leField tail 0 4 < 64 then s.dir.ignoredTails else sat s.dir.ignoredTails
          ignoredHeads := if leField head 0 4 < 64 then s.dir.ignoredHeads else sat s.dir.ignoredHeads } ∧
        t.bus = Bus.write { s.bus with txns := s.bus.txns.filter fun u => u.owner ≠ .bootTail ∧ u.owner ≠ .bootHead }
          (x.map.responseBase + 16 * t.dir.responseHead) (responseBytes 0 0 .done 0 0 s.house) .responseEntry)

/-! ## Memory path -/

/-- R1, R5, R15: a write accepted while the list has a free entry is put in the list with the treatment of the regions it touches,
and asked of the arbiter in class 1 with the part's own tag; with 64 entries it waits at the link (log entry 7). -/
def Obligations.UpstreamWritesAreClassified : Prop :=
  ∀ (s : State) (tag addr len : Nat) (data : List Byte) (enables : List Bool),
    (s.entries.length = 64 → exec (.upstreamWrite tag addr len data enables) s = .next s) ∧
    (s.entries.length < 64 →
      ∃ (e : Entry) (t : State), exec (.upstreamWrite tag addr len data enables) s = .next t ∧
        t = { s with
          entries := s.entries ++ [e]
          bus := { s.bus with
            txns := s.bus.txns ++ [⟨s.bus.next, s.bus.next, 1, true, addr, len, data, enables, .upstream, false⟩]
            next := s.bus.next + 1 } } ∧
        e.id = s.bus.next ∧ e.write = true ∧ e.tag = tag ∧ e.addr = addr ∧ e.len = len ∧
        (s.map = none → e.treatment = Treatment.pass) ∧
        ∀ m, s.map = some m →
          (e.treatment.protectCheck = true ↔
            ∃ b, touchesByte addr enables b ∧ (m.clipArea.has b ∨ m.alwaysProtects b)) ∧
          (e.treatment.ring = true ↔ ∃ b, touchesByte addr enables b ∧ m.ringHas b) ∧
          (e.treatment.tailWord = .whole ↔ ∀ k < 4, touchesByte addr enables (m.directiveBase + 4096 + k)) ∧
          (e.treatment.tailWord = .none ↔ ∀ k < 4, ¬ touchesByte addr enables (m.directiveBase + 4096 + k)) ∧
          (e.treatment.headWord = .whole ↔ ∀ k < 4, touchesByte addr enables (m.responseBase + 1024 + k)) ∧
          (e.treatment.headWord = .none ↔ ∀ k < 4, ¬ touchesByte addr enables (m.responseBase + 1024 + k)) ∧
          e.treatment.eligible = none)

/-- R1, R10, R11: a read of one whole cell of an enabled channel's ring is eligible, and its network fetch is asked for; every other
read is passed, and counts one misaligned read in each channel on another source whose ring it touches. -/
def Obligations.UpstreamReadsAreClassified : Prop :=
  ∀ (s : State) (tag addr len : Nat),
    (s.entries.length = 64 → exec (.upstreamRead tag addr len) s = .next s) ∧
    (s.entries.length < 64 →
      ∃ t, exec (.upstreamRead tag addr len) s = .next t ∧
        ((∃ c : Fin 32,
            (len = 192 ∧ (s.chan c).state ≠ .off ∧
              ∃ r i, s.channelRing c = some r ∧ i < r.cells ∧ addr = r.base + 192 * i) ∧
            t = { s with
              entries := s.entries ++
                [⟨s.bus.next, false, tag, addr, len, { Treatment.pass with eligible := some c }⟩]
              bus := s.bus.request 1 false addr len [] [] .networkFetch }) ∨
          ((∀ c : Fin 32, ¬ (len = 192 ∧ (s.chan c).state ≠ .off ∧
              ∃ r i, s.channelRing c = some r ∧ i < r.cells ∧ addr = r.base + 192 * i)) ∧
            t = { s with
              entries := s.entries ++ [⟨s.bus.next, false, tag, addr, len, Treatment.pass⟩]
              bus := s.bus.request 1 false addr len [] [] .upstream
              channels := t.channels } ∧
            ∀ c : Fin 32,
              ((s.chan c).state ≠ .off → (s.chan c).state ≠ .network →
                (∃ r b, s.channelRing c = some r ∧ r.has b ∧ addr ≤ b ∧ b < addr + len) →
                t.chan c = { s.chan c with
                  counts := { (s.chan c).counts with misaligned := sat (s.chan c).counts.misaligned } }) ∧
              ((s.chan c).state = .off ∨ (s.chan c).state = .network ∨
                  (¬ ∃ r b, s.channelRing c = some r ∧ r.has b ∧ addr ≤ b ∧ b < addr + len) →
                t.chan c = s.chan c))))

/-- R13, R14: of the candidates, the one of the highest class that was requested before every other of its class is issued; with no
candidate nothing is. -/
def Obligations.GrantIssuesTheFirstCandidate : Prop :=
  ∀ s : State, s.tagsApart →
    ((∀ x, ¬ s.bus.isCandidate x) → exec .downstreamGrant s = .next s) ∧
    ∀ x, s.bus.turnsTo x →
      (x.owner ≠ .upstream ∨ (∃ e ∈ s.entries, e.id = x.id ∧ e.treatment.protectCheck = false) ∨
        ∀ b, ¬ (touchesByte x.addr x.enables b ∧ s.protects b)) →
      exec .downstreamGrant s = .next { s with
        bus := { s.bus with txns := s.bus.txns.map fun y => if y.id = x.id then { y with issued := true } else y } }

/-- R6, R7: a write under protect-check that the arbiter turns to and that touches a protected byte is refused whole. REFUSED goes
upstream with the write's tag, its entry is free, and it is no transaction any more. The log writer makes WRITE_REFUSED of the
refusal when the count stood at 0, and the writes it asks for are among the transactions. The refusal is counted. -/
def Obligations.GrantRefusesAProtectedWrite : Prop :=
  ∀ (s : State) (x : Txn) (e : Entry), s.tagsApart → s.bus.turnsTo x → x.owner = .upstream → e ∈ s.entries → e.id = x.id →
    e.treatment.protectCheck = true → (∃ b, touchesByte x.addr x.enables b ∧ s.protects b) →
    ∃ t more, exec .downstreamGrant s = .next t ∧ t.up = s.up ++ ⟨e.tag, .refused⟩ :: more ∧
      (∀ y ∈ t.bus.txns, y.id ≠ x.id) ∧ (∀ y ∈ t.entries, y.id ≠ x.id) ∧ sat s.refusedWrites ≤ t.refusedWrites ∧
      (s.refusedWrites ≠ 0 → t.log = s.log ∧ t.bus.next = s.bus.next) ∧
      (s.refusedWrites = 0 →
        let reported := s.record ⟨.writeRefused, 255, 0, x.addr % 2 ^ 32, x.addr / 2 ^ 32, x.len⟩
        t.log = reported.log ∧ t.bus.next = reported.bus.next ∧
          ∀ y ∈ reported.bus.txns, y.id = s.bus.next → y ∈ t.bus.txns ∨ { y with issued := true } ∈ t.bus.txns)

/-- R6: no grant issues a write under protect-check that touches a protected byte, however many refusals the grant makes before it
finds its candidate. -/
def Obligations.NoGrantIssuesAProtectedWrite : Prop :=
  ∀ s t : State, s.tagsApart → exec .downstreamGrant s = .next t →
    ∀ x ∈ s.bus.txns, x.issued = false → x.owner = .upstream →
      (∃ e ∈ s.entries, e.id = x.id ∧ e.treatment.protectCheck = true) →
      (∃ b, touchesByte x.addr x.enables b ∧ s.protects b) → ∀ y ∈ t.bus.txns, y.id = x.id → y.issued = false

/-- R1, R11, R12: memory's answer to a passed transaction, or ERROR to any other forwarded write, goes upstream with the
transaction's tag, and its entry is free; the answer to a network fetch makes the read ready to be taken by its channel. That
PASSED_TRANSACTION_COMPLETE is also the answer to a network fetch is the model's reading (log entry 9). -/
def Obligations.MemoryAnswersGoUpstream : Prop :=
  ∀ (s : State) (x : Txn) (e : Entry) (a : Answer), s.bus.issuedTxn x.id = some x → s.entry x.id = some e →
    (x.owner = .upstream → (e.treatment.ring = false ∧ e.treatment.tailWord = .none ∧ e.treatment.headWord = .none) ∨ a = .error →
      exec (.passedTransactionComplete x.id a) s = .next { s with
        up := s.up ++ [⟨e.tag, match a with | .ok d => .ok d | .error => .error⟩]
        entries := s.entries.filter fun y => y.id ≠ x.id
        bus := { s.bus with txns := s.bus.txns.filter fun y => y.id ≠ x.id } }) ∧
    ∀ c, x.owner = .networkFetch → e.treatment.eligible = some c →
      exec (.passedTransactionComplete x.id a) s = .next { s with
        channels := s.channels.set c { s.chan c with ready := (s.chan c).ready ++ [⟨x.id, a⟩] }
        bus := { s.bus with txns := s.bus.txns.filter fun y => y.id ≠ x.id } }

/-! ## Ring writes and watched words -/

/-- R8, R26, R34 to R36: a forwarded ring write, answered OK. Whatever it holds, its whole cells, and no other byte of it, are taken
in ascending address order, each to completion, and a write that holds none takes nothing. One whole cell of a feed's ring is
numbered, the writer's place moves on past it with a break counted when it was not where the writer stood, an entry cell becomes the
latest entry, a lapped one expires, and OK goes upstream. -/
def Obligations.FeedCellsAreNumbered : Prop :=
  (∀ (s : State) (x : Txn) (e : Entry) (m : RegionMap) (cells : List WholeCell),
    s.bus.issuedTxn x.id = some x → s.entry x.id = some e → x.owner = .upstream → e.write = true →
    e.treatment.ring = true → e.treatment.tailWord = .none → e.treatment.headWord = .none → s.map = some m →
    x.enables.length ≤ 512 → (∀ y, y ∈ cells ↔ m.holdsWhole x y) → (cells.Pairwise fun y z => y.addr < z.addr) →
    let left : State := { s with bus := { s.bus with txns := s.bus.txns.filter fun y => y.id ≠ x.id } }
    exec (.ringWriteComplete x.id) s = .next { cells.foldl State.takeWholeCell left with
      up := s.up ++ [⟨e.tag, .ok []⟩]
      entries := s.entries.filter fun y => y.id ≠ x.id }) ∧
  ∀ (s : State) (x : Txn) (e : Entry) (m : RegionMap) (f : Fin 6) (i : Nat),
    s.bus.issuedTxn x.id = some x → s.entry x.id = some e → x.owner = .upstream → e.write = true →
    e.treatment.ring = true → e.treatment.tailWord = .none → e.treatment.headWord = .none → s.map = some m →
    i < m.feedRings[f].cells → x.addr = m.feedRings[f].base + 192 * i → x.data.length = 192 →
    x.enables = List.replicate 192 true → (∀ g : Fin 6, g ≠ f → ¬ m.feedRings[g].has x.addr) →
    (∀ (c : Fin 32) (r : Ring), m.channelRings[c] = some r → ¬ r.has x.addr) →
    ∃ (tr : FeedTracker) (number : Stamp) (latest : Option (Stamp × Pts)),
      exec (.ringWriteComplete x.id) s = .next { s with
        up := s.up ++ [⟨e.tag, .ok []⟩]
        entries := s.entries.filter fun y => y.id ≠ x.id
        bus := { s.bus with txns := s.bus.txns.filter fun y => y.id ≠ x.id }
        feeds := s.feeds.set f tr } ∧
      number = (s.feed f).written + BitVec.ofInt 32 (((i : Int) - (s.feed f).next) % m.feedRings[f].cells) ∧
      latest = ((entryPts (s.feed f).roles[(0 : Fin 6)] x.data).map fun p => (number, p)).or (s.feed f).latest ∧
      tr.roles = (s.feed f).roles ∧ tr.written = number + 1 ∧ tr.next = (i + 1) % m.feedRings[f].cells ∧
      (∀ q, latest = some q → m.feedRings[f].cells ≤ (tr.written - q.1).toNat → tr.latest = none) ∧
      (∀ q, latest = some q → (tr.written - q.1).toNat < m.feedRings[f].cells → tr.latest = some q) ∧
      (latest = none → tr.latest = none) ∧
      tr.malformed = (if wellFormed x.data then (s.feed f).malformed else sat (s.feed f).malformed) ∧
      tr.breaks = (if i = (s.feed f).next then (s.feed f).breaks else sat (s.feed f).breaks)

/-- R27 to R30, R32: a forwarded write of one whole cell of a channel's ring, answered OK. An OFF channel takes nothing, a malformed
cell is counted, and a cell on the VIDEO PID gives the ingest video PTS and a clock sample; the clock tracker judges the sample by
its signed deviation from the total its stamp predicts. A sample that takes the tracker out of STEADY makes CLOCK_UNSTEADY, AHEAD or
BEHIND, and the fourth in tolerance makes CLOCK_STEADY; no other makes a record. A well-formed cell on the cue PID of an enabled
channel is then handed to the cue unit, whose work O15 states. -/
def Obligations.ChannelCellsAreWatched : Prop :=
  ∀ (s : State) (x : Txn) (e : Entry) (m : RegionMap) (c : Fin 32) (ring : Ring) (i : Nat),
    s.bus.issuedTxn x.id = some x → s.entry x.id = some e → x.owner = .upstream → e.write = true →
    e.treatment.ring = true → e.treatment.tailWord = .none → e.treatment.headWord = .none → s.map = some m →
    m.channelRings[c] = some ring → i < ring.cells → x.addr = ring.base + 192 * i → x.data.length = 192 →
    x.enables = List.replicate 192 true → (∀ g : Fin 6, ¬ m.feedRings[g].has x.addr) →
    (∀ (d : Fin 32) (r : Ring), d ≠ c → m.channelRings[d] = some r → ¬ r.has x.addr) →
    ∃ (ch : Channel) (made : List Record),
      let left : State := { s with bus := { s.bus with txns := s.bus.txns.filter fun y => y.id ≠ x.id } }
      let watched : State := { left.recordAll made with channels := s.channels.set c ch }
      let cue := (s.chan c).state ≠ .off ∧ wellFormed x.data = true ∧ (s.chan c).config.cuePid = some (cellPid x.data)
      let taken := if cue then watched.cueCell c x.data else watched
      exec (.ringWriteComplete x.id) s = .next { taken with
        up := s.up ++ [⟨e.tag, .ok []⟩]
        entries := s.entries.filter fun y => y.id ≠ x.id } ∧
      ((s.chan c).state = .off → ch = s.chan c ∧ made = []) ∧
      ((s.chan c).state ≠ .off → wellFormed x.data = false →
        ch = { s.chan c with malformedIngest := sat (s.chan c).malformedIngest } ∧ made = []) ∧
      ((s.chan c).state ≠ .off → wellFormed x.data = true → (s.chan c).pidOf .video ≠ some (cellPid x.data) →
        ch = s.chan c ∧ made = []) ∧
      ((s.chan c).state ≠ .off → wellFormed x.data = true → (s.chan c).pidOf .video = some (cellPid x.data) →
        let was := (s.chan c).clock
        ch = { s.chan c with
          ingestPts := (readPts x.data).or (s.chan c).ingestPts
          clock := ch.clock } ∧
        (readPcr x.data = none → ch.clock = was ∧ made = []) ∧
        ∀ total, readPcr x.data = some total →
          ch.clock.last = some (total, arrivalStamp x.data) ∧
          (was.status = .unseen → ch.clock.status = .unsteady ∧ ch.clock.settle = 0 ∧ made = []) ∧
          ∀ last stamp, was.status ≠ .unseen → was.last = some (last, stamp) →
            ∃ d : Int, -1288490188800 ≤ d ∧ d < 1288490188800 ∧
              (d - (total - (last + (arrivalStamp x.data - stamp).toNat))) % 2576980377600 = 0 ∧
              ((s.chan c).config.clockTolerance < d.natAbs →
                ch.clock.status = .unsteady ∧ ch.clock.settle = 0 ∧
                (was.status = .unsteady → made = []) ∧
                (was.status = .steady → made =
                  [⟨.clockUnsteady, c, if 0 < d then 1 else 2, 0, total / 300, min d.natAbs (2 ^ 33 - 1)⟩])) ∧
              (d.natAbs ≤ (s.chan c).config.clockTolerance →
                ch.clock.settle = min (was.settle + 1) 4 ∧
                (ch.clock.status = .steady ↔ was.status = .steady ∨ 4 ≤ was.settle + 1) ∧
                (was.status = .steady ∨ was.settle + 1 < 4 → made = []) ∧
                (was.status = .unsteady → 4 ≤ was.settle + 1 →
                  made = [⟨.clockSteady, c, 0, 0, total / 300, d.natAbs⟩])))

/-- R81, R83 to R86, R88, R90 to R95: the cue unit. A handed cell is ignored, counted as CUE_BAD, or an accepted cue with the fields
of its record (section 5.1), by the tests in their order. An OUT cue whose id is queued, playing or recent is counted and changes
nothing else; one that no binding of the channel answers makes only a CUE_UNBOUND record; any other takes a use of its binding, and
its event, with that binding's pod, stands in the queue behind the events not after it. With four events already there, the full
policy says which one is lost, with CUE_LOST, and its id becomes recent. An IN cue sets the return time of the current avail, or of
the queued event with its id. A CANCEL takes a queued event out with EVENT_MISSED, or sets the current avail's return time to the
ingest video PTS. Any other IN or CANCEL is a duplicate when its id is recent, and CUE_BAD otherwise, as is a cue without a resolved
time. -/
def Obligations.OutCuesJoinTheQueue : Prop :=
  ∀ (s : State) (c : Fin 32) (cell : List Byte),
    let bad : State := { s with
      channels := s.channels.set c
        { s.chan c with counts := { (s.chan c).counts with cueBad := sat (s.chan c).counts.cueBad } } }
    (sortCue cell = .ignored → s.cueCell c cell = s) ∧ (sortCue cell = .bad → s.cueCell c cell = bad) ∧
    (payloadStart cell = none ∨ payloadUnitStart cell = false → sortCue cell = .ignored) ∧
    (∀ start, payloadStart cell = some start → payloadUnitStart cell = true →
      let p := (cell.take 192).drop start
      let flags := p.getD 7 0
      let timeLength := if flags.getLsbD 7 then 5 else 0
      let rest := 8 + timeLength + if flags.getLsbD 6 then 5 else 0
      let duration : Pts := BitVec.ofNat 33 (beField p (8 + timeLength) 5)
      let kindIs (kind : CueKind) :=
        (kind = .out ∧ p.getD 2 0 = 1) ∨ (kind = .inn ∧ p.getD 2 0 = 2) ∨ (kind = .cancel ∧ p.getD 2 0 = 3)
      (scrambling cell ≠ 0 → sortCue cell = .bad) ∧
      (scrambling cell = 0 → p.getD 0 0 ≠ 0xE5#8 → sortCue cell = .ignored) ∧
      (scrambling cell = 0 → p.getD 0 0 = 0xE5#8 →
        (p.length < 8 ∨ p.length < rest + 5 → sortCue cell = .bad) ∧
        (8 ≤ p.length → rest + 5 ≤ p.length →
          ((crc32 (p.take (rest + 1))).toNat ≠ beField p (rest + 1) 4 → sortCue cell = .bad) ∧
          ((crc32 (p.take (rest + 1))).toNat = beField p (rest + 1) 4 →
            (p.getD 1 0 ≠ 1 ∨ (∀ kind, ¬ kindIs kind) ∨ (flags.getLsbD 6 = true ∧ 2 ^ 32 ≤ duration.toNat) →
              sortCue cell = .bad) ∧
            ∀ kind, p.getD 1 0 = 1 → kindIs kind → (flags.getLsbD 6 = true → duration.toNat < 2 ^ 32) →
              sortCue cell = .accepted
                { kind := kind
                  event := beField p 3 4
                  time := if flags.getLsbD 7 then some (BitVec.ofNat 33 (beField p 8 5)) else none
                  duration := if flags.getLsbD 6 then some duration.toNat else none
                  autoReturn := flags.getLsbD 5
                  avail := (p.getD rest 0).toNat })))) ∧
    ∀ cue : Cue, sortCue cell = .accepted cue →
    let playing := ∃ a, (s.chan c).avail = some a ∧ a.event = cue.event
    let queued := ∃ e ∈ (s.chan c).queue, e.event = cue.event
    let duplicate : State := { s with
      channels := s.channels.set c
        { s.chan c with counts := { (s.chan c).counts with duplicates := sat (s.chan c).counts.duplicates } } }
    let returning (time : Pts) : State := { s with
      channels := s.channels.set c
        { s.chan c with avail := (s.chan c).avail.map fun a => { a with ret := some (time, .cueIn) } } }
    let unmatched := (cue.event ∈ (s.chan c).recent → s.cueCell c cell = duplicate) ∧
      (cue.event ∉ (s.chan c).recent → s.cueCell c cell = bad)
    (cue.kind ≠ .cancel → cue.time.or (s.chan c).ingestPts = none → s.cueCell c cell = bad) ∧
    (∀ time, cue.kind = .out → cue.time.or (s.chan c).ingestPts = some time →
      (queued ∨ playing ∨ cue.event ∈ (s.chan c).recent → s.cueCell c cell = duplicate) ∧
      (¬ queued → ¬ playing → cue.event ∉ (s.chan c).recent →
        ((∀ i : Fin 8, ∀ b, (s.bindingTable c)[i] = some b → b.key ≠ some cue.avail ∧ b.key ≠ none) →
          s.cueCell c cell = s.record ⟨.cueUnbound, c, 0, cue.event, time.toNat, cue.avail⟩) ∧
        ∀ (i : Fin 8) (b : Binding), (s.bindingTable c)[i] = some b →
          (b.key = some cue.avail ∨
            (b.key = none ∧ ∀ j : Fin 8, ∀ b', (s.bindingTable c)[j] = some b' → b'.key ≠ some cue.avail)) →
          (∀ j : Fin 8, ∀ b', (s.bindingTable c)[j] = some b' → b'.key = b.key → j = i) →
          ∃ front back, (s.chan c).queue = front ++ back ∧ (∀ y ∈ front, isAfter y.time time = false) ∧
            (∀ y, back.head? = some y → isAfter y.time time = true) ∧
            let event : AvailEvent := ⟨cue.event, time, cue.duration, cue.autoReturn, cue.avail, b.pod, none⟩
            let used := if b.uses = 0 then some b else if b.uses = 1 then none else some { b with uses := b.uses - 1 }
            let drawn (u : State) (ch : Channel) : State := { u with
              bindings := s.bindings.set c ((s.bindingTable c).set i used)
              channels := s.channels.set c ch }
            ((s.chan c).queue.length < 4 →
              s.cueCell c cell = drawn s { s.chan c with queue := front ++ event :: back }) ∧
            ((s.chan c).queue.length = 4 → (s.chan c).config.policy = .keep →
              s.cueCell c cell = drawn (s.record ⟨.cueLost, c, 1, cue.event, time.toNat, cue.avail⟩)
                { s.chan c with recent := joinRecent 4 (s.chan c).recent cue.event }) ∧
            ∀ four lost, (s.chan c).queue.length = 4 → (s.chan c).eventsApart → (s.chan c).config.policy = .earliest →
              front ++ event :: back = four ++ [lost] →
              s.cueCell c cell = drawn (s.record ⟨.cueLost, c, 2, lost.event, lost.time.toNat, lost.avail⟩)
                { s.chan c with queue := four, recent := joinRecent 4 (s.chan c).recent lost.event })) ∧
    (∀ time, cue.kind = .inn → cue.time.or (s.chan c).ingestPts = some time →
      (playing → s.cueCell c cell = returning time) ∧
      (∀ front e back, ¬ playing → (s.chan c).queue = front ++ e :: back → e.event = cue.event →
        (∀ y ∈ front ++ back, y.event ≠ cue.event) →
        s.cueCell c cell = { s with
          channels := s.channels.set c { s.chan c with queue := front ++ { e with ret := some time } :: back } }) ∧
      (¬ playing → ¬ queued → unmatched)) ∧
    (cue.kind = .cancel →
      (∀ front e back, (s.chan c).queue = front ++ e :: back → e.event = cue.event →
        (∀ y ∈ front ++ back, y.event ≠ cue.event) →
        s.cueCell c cell = { s.record ⟨.eventMissed, c, 7, cue.event, e.time.toNat, 0⟩ with
          channels := s.channels.set c
            { s.chan c with queue := front ++ back, recent := joinRecent 4 (s.chan c).recent cue.event } }) ∧
      (¬ queued → playing →
        (∀ time, (s.chan c).ingestPts = some time → s.cueCell c cell = returning time) ∧
        ((s.chan c).ingestPts = none → s.cueCell c cell = bad)) ∧
      (¬ queued → ¬ playing → unmatched))

/-- R9, R186: forwarded writes of watched words, answered OK. The whole directive tail word hands its value: 0 to 63 becomes the
directive tail, any other is counted. Some but not all bytes of a watched word hand no value and are counted as an ignored write of
that word; that these two counts stay at 65,535 is the model's choice (log entry 27). OK goes upstream when the treatments have been
carried out (log entry 21), and a write that meets a ring too is reported to it. -/
def Obligations.TailWritesAreTakenAndPartsCounted : Prop :=
  ∀ (s : State) (x : Txn) (e : Entry) (m : RegionMap),
    s.bus.issuedTxn x.id = some x → s.entry x.id = some e → x.owner = .upstream → e.write = true → s.map = some m →
    let left : State := { s with bus := { s.bus with txns := s.bus.txns.filter fun y => y.id ≠ x.id } }
    let reported : State := if e.treatment.ring = true then left.reportRingWrite x.addr x.data x.enables else left
    let answered (dir : DirectiveUnit) : State := { reported with
      up := s.up ++ [⟨e.tag, .ok []⟩]
      entries := s.entries.filter fun y => y.id ≠ x.id
      dir := dir }
    let value := leField x.data (m.directiveBase + 4096 - x.addr) 4
    (e.treatment.tailWord = .whole → e.treatment.headWord = .none →
      (value < 64 → exec (.directiveTailWrite x.id) s = .next (answered { s.dir with tail := value })) ∧
      (64 ≤ value → exec (.directiveTailWrite x.id) s = .next
        (answered { s.dir with ignoredTails := min (s.dir.ignoredTails + 1) 65535 }))) ∧
    (e.treatment.tailWord = .part → e.treatment.headWord = .none →
      exec (.partialWatchedWrite x.id) s = .next
        (answered { s.dir with ignoredTails := min (s.dir.ignoredTails + 1) 65535 })) ∧
    (e.treatment.tailWord = .none → e.treatment.headWord = .part →
      exec (.partialWatchedWrite x.id) s = .next
        (answered { s.dir with ignoredHeads := min (s.dir.ignoredHeads + 1) 65535 }))

/-- R9, R189: a forwarded write of the whole response head word, answered OK. With `a` the advance from the response head (64 when
the value equals it and all 64 slots are published), a value of 0 to 63 that advances over published entries alone gives back their
slots; any other is counted and ignored. That this count stays at 65,535 is the model's choice (log entry 27), and so is the place
of the OK that goes upstream after the treatments (log entry 21). -/
def Obligations.HeadWritesGiveSlotsBack : Prop :=
  ∀ (s : State) (x : Txn) (e : Entry) (m : RegionMap) (value a : Nat),
    s.bus.issuedTxn x.id = some x → s.entry x.id = some e → x.owner = .upstream → e.write = true → s.map = some m →
    e.treatment.tailWord = .none → e.treatment.headWord = .whole →
    value = leField x.data (m.responseBase + 1024 - x.addr) 4 → s.dir.responseHead < 64 →
    (value = s.dir.responseHead → s.dir.published = 64 → a = 64) →
    (¬ (value = s.dir.responseHead ∧ s.dir.published = 64) →
      a = ((value - s.dir.responseHead : Int) % 64).toNat) →
    let left : State := { s with bus := { s.bus with txns := s.bus.txns.filter fun y => y.id ≠ x.id } }
    let reported : State := if e.treatment.ring = true then left.reportRingWrite x.addr x.data x.enables else left
    ∃ t, exec (.responseHeadWrite x.id) s = .next t ∧
      (value < 64 → a ≤ s.dir.published → t.dir = { s.dir with
        responseHead := value
        unconsumed := s.dir.unconsumed - a
        published := s.dir.published - a }) ∧
      (64 ≤ value ∨ s.dir.published < a → t.dir = { s.dir with ignoredHeads := sat s.dir.ignoredHeads }) ∧
      (t.attn = true ↔ 0 < t.dir.published) ∧
      t = { reported with
        up := s.up ++ [⟨e.tag, .ok []⟩]
        entries := s.entries.filter fun y => y.id ≠ x.id
        dir := t.dir }

/-! ## Output reads -/

/-- R11, R43 to R46, R51, R52, R103, R106, R130: no read is taken while one is in hand or none is ready. A ready read whose network
fetch was answered ERROR is answered ERROR, and a read of a channel that is OFF is answered with its network cell as fetched;
neither changes the context. A read of a channel in SUBST or ALERT, whose checks find nothing due, is supplied from its feed. A
waiting cursor without a latest entry, and a cursor at the writer (an underflow), give a null cell. A lapped cursor slips, with
FEED_SLIP, and, like a waiting one, is placed on the latest entry with an immediate anchor. The cell at the cursor is asked for, and
the read stays in hand. At an entry cell each due head is retired first, SUPPRESSED in SUBST before the window's end and ALERT in
ALERT, and then a suspended window that has ended is ended; each of these leaves the read as it would be had the state been so
before it. -/
def Obligations.ReadsAreTakenInTurn : Prop :=
  ∀ (s : State) (c : Fin 32),
    ((s.chan c).inHand ≠ none ∨ (s.chan c).ready = [] → exec (.takeRead c) s = .next s) ∧
    (∀ (r : ReadyRead) (rest : List ReadyRead) (e : Entry) (out : UpResult),
      (s.chan c).inHand = none → (s.chan c).ready = r :: rest → s.entry r.entry = some e →
      (r.answer = .error ∧ out = .error) ∨
        ((s.chan c).state = .off ∧ ∃ cell, r.answer = .ok cell ∧ out = .ok cell) →
      exec (.takeRead c) s = .next { s with
        up := s.up ++ [⟨e.tag, out⟩]
        entries := s.entries.filter fun y => y.id ≠ r.entry
        channels := s.channels.set c { s.chan c with ready := rest } }) ∧
    (∀ (r : ReadyRead) (rest : List ReadyRead) (e : Entry) (cell : List Byte) (m : RegionMap) (f : Fin 6) (cursor : Option Stamp),
      s.takes c r rest e cell → (s.chan c).state = .subst ∨ (s.chan c).state = .alert → (s.chan c).source = .feed f cursor →
      (∀ n, entryPts ((s.chan c).pidOf .video) cell = some n → (s.chan c).noneDue n ∧
        ∀ id w, (s.chan c).window = some id → s.window id = some w → atOrAfter n w.stop = false) →
      s.map = some m → 0 < m.feedRings[f].cells →
      let tr := s.feed f
      let noted : Channel := { (s.chan c).taking rest cell with
        netPts := (entryPts ((s.chan c).pidOf .video) cell).or (s.chan c).netPts }
      let placed (p : Pts) : Channel := noted.switched (.feed f none) (noted.outPts.getD p - p)
      let held (u : State) (ch : Channel) (a : Stamp) (i : Nat) : State :=
        u.readHeld c ch e cell (m.feedRings[f].base + 192 * i) (.feed f) (.feed f (some (a + 1)))
      (cursor = none → tr.latest = none → exec (.takeRead c) s = .next (s.readAnswered c noted.nulled e (nullCell cell))) ∧
      (∀ a p i, cursor = none → tr.latest = some (a, p) → s.feedIndex m f a i →
        exec (.takeRead c) s = .next (held s (placed p) a i)) ∧
      (cursor = some tr.written → exec (.takeRead c) s = .next (s.readAnswered c
        ({ noted with counts := { noted.counts with underflows := sat noted.counts.underflows } } : Channel).nulled e
          (nullCell cell))) ∧
      (∀ a i, cursor = some a → s.feedHolds m f a → s.feedIndex m f a i →
        exec (.takeRead c) s = .next (held s noted a i)) ∧
      ∀ a, cursor = some a → a ≠ tr.written → m.feedRings[f].cells ≤ (tr.written - a).toNat →
        let slipped (ch : Channel) : Channel := { ch with counts := { ch.counts with slips := sat ch.counts.slips } }
        (tr.latest = none → exec (.takeRead c) s = .next
          ((s.record ⟨.feedSlip, c, 0, f, (tr.written - a).toNat, 0⟩).readAnswered c
            ({ slipped noted with source := .feed f none } : Channel).nulled e (nullCell cell))) ∧
        ∀ b p i, tr.latest = some (b, p) → s.feedIndex m f b i → exec (.takeRead c) s = .next
          (held (s.record ⟨.feedSlip, c, 0, f, (tr.written - a).toNat, (placed p).delta.toNat⟩) (slipped (placed p)) b i)) ∧
    ∀ (r : ReadyRead) (rest : List ReadyRead) (e : Entry) (cell : List Byte) (n : Pts),
      s.takes c r rest e cell → entryPts ((s.chan c).pidOf .video) cell = some n →
      (∀ ev more, (s.chan c).queue = ev :: more → atOrAfter n ev.time = true →
        (∀ id w, (s.chan c).state = .subst → (s.chan c).window = some id → s.window id = some w →
          atOrAfter n w.stop = false → exec (.takeRead c) s = exec (.takeRead c) (s.headMissed c ev more 5 n)) ∧
        ((s.chan c).state = .alert → exec (.takeRead c) s = exec (.takeRead c) (s.headMissed c ev more 6 n))) ∧
      ∀ id w, (s.chan c).state = .alert → (s.chan c).noneDue n → (s.chan c).window = some id → s.window id = some w →
        w.channel = c → atOrAfter n w.stop = true →
        exec (.takeRead c) s = exec (.takeRead c) (s.windowGone c id w 1 n)

/-- R45, R49, R56, R58 to R60: a read of a channel in NETWORK whose cell is no entry cell is answered with the network cell. On a
role PID the continuity counter follows the role's offset, which the first payload-bearing cell after a switch fixes, and the first
readable PCR of VIDEO after a switch takes the discontinuity flag; every other cell goes out as fetched. -/
def Obligations.NetworkCellsKeepContinuity : Prop :=
  ∀ (s : State) (c : Fin 32) (r : ReadyRead) (rest : List ReadyRead) (e : Entry) (cell : List Byte),
    (s.chan c).inHand = none → (s.chan c).ready = r :: rest → s.entry r.entry = some e → r.answer = .ok cell →
    cell.length = 192 → (s.chan c).state = .network → (s.chan c).source = .network →
    entryPts ((s.chan c).pidOf .video) cell = none →
    ∃ (out : List Byte) (ch : Channel),
      exec (.takeRead c) s = .next { s with
        up := s.up ++ [⟨e.tag, .ok out⟩]
        entries := s.entries.filter fun y => y.id ≠ r.entry
        channels := s.channels.set c ch } ∧
      (wellFormed cell = false → out = cell ∧ ch = { s.chan c with
        ready := rest
        counts := { (s.chan c).counts with malformed := sat (s.chan c).counts.malformed } }) ∧
      (wellFormed cell = true → roleOfPid (s.chan c).config.roles (cellPid cell) = none →
        out = cell ∧ ch = { s.chan c with ready := rest }) ∧
      ∀ role, wellFormed cell = true → roleOfPid (s.chan c).config.roles (cellPid cell) = some role →
        let was := (s.chan c).continuity[role.idx]
        let marks := role = .video ∧ pcrReadable cell = true ∧ (s.chan c).pcrMark = true
        (∀ i, i ≠ 7 → i ≠ 9 → cellByte out i = cellByte cell i) ∧
        (cellByte out 7).extractLsb' 4 4 = (cellByte cell 7).extractLsb' 4 4 ∧
        (marks → cellByte out 9 = cellByte cell 9 ||| 0x80#8) ∧ (¬ marks → cellByte out 9 = cellByte cell 9) ∧
        ∃ now : Continuity,
          ch = { s.chan c with
            ready := rest
            continuity := (s.chan c).continuity.set role.idx now
            pcrMark := ch.pcrMark
            outPts := if role = .video then (readPts out).or (s.chan c).outPts else (s.chan c).outPts } ∧
          (ch.pcrMark = true ↔ (s.chan c).pcrMark = true ∧ ¬ marks) ∧
          (was.pending = false → cellCc out = cellCc cell + was.k ∧ now = { was with last := some (cellCc out) }) ∧
          (was.pending = true → payloadBearing cell = true →
            (∀ l, was.last = some l → cellCc out = l + 1) ∧ (was.last = none → cellCc out = cellCc cell) ∧
            now = ⟨some (cellCc out), cellCc out - cellCc cell, false⟩) ∧
          (was.pending = true → payloadBearing cell = false → cellCc out = was.last.getD (cellCc cell) ∧ now = was)

/-- R45 to R47, R50, R54, R100 to R108, R124, R125: a network entry cell of a channel in NETWORK. A due avail event at the head of
the queue, met when no window is due, splices out when it is within the late tolerance, the clock is STEADY and the log gate is
open: AVAIL_START and CLIP_START are handed over, it becomes the current avail with S at the entry PTS, the pod's first clip starts
there, due events behind it that are later than the tolerance are retired OVERLAP, and the read stays in hand for the clip's cell 0.
A due head that fails one of those tests is retired LATE, UNSTEADY or LOG_FULL, in NETWORK and after the return from RETURN_WAIT
alike. With nothing due and no window to test, the cell is the output. An earliest window that has ended is retired LAPSED. One that
covers N becomes ACTIVE with WINDOW_START, and the channel goes to SUBST with its cursor on the window's feed, where it meets the
SUBST checks; with nothing due the read stays in hand for the feed's cell there, or is answered with a null cell while the feed has
no latest entry. Each retirement leaves the read as it would be had the state been so before it. That a window whose end has passed
is LAPSED also when its start reads as after N is the model's choice (log entry 32). -/
def Obligations.DueAvailSplicesOut : Prop :=
  (∀ (s : State) (c : Fin 32) (r : ReadyRead) (rest : List ReadyRead) (cell : List Byte) (n : Pts) (ev : AvailEvent)
    (gone more : List AvailEvent) (clip : Fin 64) (clips : List (Fin 64)) (p0 : Pts),
    (s.chan c).inHand = none → (s.chan c).ready = r :: rest → r.answer = .ok cell → (s.chan c).state = .network →
    s.noWindowAt (s.chan c).windows n → (s.chan c).queue = ev :: (gone ++ more) →
    entryPts ((s.chan c).pidOf .video) cell = some n →
    atOrAfter n ev.time = true → forward n ev.time ≤ (s.chan c).config.lateTolerance →
    (s.chan c).clock.status = .steady → s.log.state = .open → s.log.reserve ≤ (s.log.floor - s.log.fo - 16) / 32 →
    ev.pod = clip :: clips → (s.clip clip).cells ≠ 0 → (s.clip clip).p0 = some p0 →
    (∀ x ∈ gone, atOrAfter n x.time = true ∧ (s.chan c).config.lateTolerance < forward n x.time) →
    (∀ x, more.head? = some x → atOrAfter n x.time = false ∨ forward n x.time ≤ (s.chan c).config.lateTolerance) →
    let records : List Record :=
      [⟨.availStart, c, 0, ev.event, n.toNat, ev.avail⟩, ⟨.clipStart, c, 0, clip, n.toNat, (n - p0).toNat⟩] ++
        gone.map fun x => ⟨.eventMissed, c, 4, x.event, x.time.toNat, forward n x.time⟩
    let u := s.recordAll records
    ∃ ret,
      (∀ q, ev.ret = some q → ret = some (q, .cueIn)) ∧
      (∀ d, ev.ret = none → ev.duration = some d → ret = some (n + BitVec.ofNat 33 d, .breakEnd)) ∧
      (ev.ret = none → ev.duration = none → ret = none) ∧
      exec (.takeRead c) s = .next { u with
        channels := s.channels.set c { s.chan c with
          ready := rest
          netPts := some n
          state := .insert
          source := .clip clip 1
          avail := some ⟨ev.event, ev.avail, n, ret, ev.autoReturn, ev.pod, 0⟩
          clipAnchor := some n
          delta := n - p0
          continuity := (s.chan c).continuity.map fun k => { k with pending := true }
          pcrMark := true
          queue := more
          recent := gone.foldl (fun l x => joinRecent 4 l x.event) (s.chan c).recent
          inHand := some ⟨r.entry, cell, u.bus.next, false⟩ }
        clips := s.clips.set clip { s.clip clip with plays := (s.clip clip).plays + 1 }
        bus := { u.bus with
          txns := u.bus.txns ++
            [⟨u.bus.next, u.bus.next, 1, false, (s.clip clip).base, 192, [], [], .sourceRead c (.clip clip), false⟩]
          next := u.bus.next + 1 } }) ∧
  (∀ (s : State) (c : Fin 32) (r : ReadyRead) (rest : List ReadyRead) (e : Entry) (cell : List Byte) (n : Pts),
    s.takes c r rest e cell → (s.chan c).state = .network ∨ (s.chan c).state = .returnWait →
    entryPts ((s.chan c).pidOf .video) cell = some n →
    (∀ ev more why, (s.chan c).queue = ev :: more → atOrAfter n ev.time = true → s.noWindowAt (s.chan c).windows n →
      let late := (s.chan c).config.lateTolerance < forward n ev.time
      let steady := (s.chan c).clock.status = .steady
      (why = 1 ∧ late) ∨ (why = 2 ∧ ¬ late ∧ ¬ steady) ∨
        (why = 3 ∧ ¬ late ∧ steady ∧ (s.log.state ≠ .open ∨ (s.log.floor - s.log.fo - 16) / 32 < s.log.reserve)) →
      exec (.takeRead c) s = exec (.takeRead c) (s.headMissed c ev more why n)) ∧
    ∀ id more w, (s.chan c).windows = id :: more → id ∉ more → s.window id = some w → w.channel = c → w.state = .scheduled →
      (atOrAfter n w.stop = true → exec (.takeRead c) s = exec (.takeRead c) (s.windowGone c id w 2 n)) ∧
      ((s.chan c).state = .network → atOrAfter n w.start = true → isAfter w.stop n = true →
        let f := localFeed w.feed
        let shown : Channel := { s.chan c with window := some id, state := .subst }
        let started (reason delta : Nat) (ch : Channel) : State := { s.record ⟨.windowStart, c, reason, id, n.toNat, delta⟩ with
          windows := s.windows.set id (some { w with state := .active })
          channels := s.channels.set c ch }
        ((s.feed f).latest = none →
          exec (.takeRead c) s = exec (.takeRead c) (started 2 0 { shown with source := .feed f none })) ∧
        ∀ a p, (s.feed f).latest = some (a, p) → exec (.takeRead c) s =
          exec (.takeRead c) (started 1 (n - p).toNat (shown.switched (.feed f (some a)) (n - p))))) ∧
  ∀ (s : State) (c : Fin 32) (r : ReadyRead) (rest : List ReadyRead) (e : Entry) (cell : List Byte) (n : Pts),
    s.takes c r rest e cell → (s.chan c).state = .network → (s.chan c).source = .network →
    entryPts ((s.chan c).pidOf .video) cell = some n → (s.chan c).noneDue n →
    let noted : Channel := { s.chan c with ready := rest, netPts := some n }
    (s.noWindowAt (s.chan c).windows n → exec (.takeRead c) s = .next (s.networkAnswered c noted e cell)) ∧
    ∀ (id : Fin 48) (more : List (Fin 48)) (w : Window), (s.chan c).windows = id :: more → s.window id = some w →
      w.channel = c → w.state = .scheduled →
      (atOrAfter n w.stop = true → id ∉ more → s.noWindowAt more n →
        exec (.takeRead c) s = .next
          (({ s.record ⟨.windowEnd, c, 2, id, n.toNat, w.stop.toNat⟩ with windows := s.windows.set id none } :
            State).networkAnswered c
              { noted with windows := more, window := if (s.chan c).window = some id then none else (s.chan c).window } e cell)) ∧
      (atOrAfter n w.start = true → isAfter w.stop n = true → ∀ m, s.map = some m →
        let f := localFeed w.feed
        let shown : Channel := { noted with window := some id, state := .subst }
        let started (reason delta : Nat) : State := { s.record ⟨.windowStart, c, reason, id, n.toNat, delta⟩ with
          windows := s.windows.set id (some { w with state := .active }) }
        ((s.feed f).latest = none → exec (.takeRead c) s = .next
          ((started 2 0).readAnswered c ({ shown with source := .feed f none } : Channel).nulled e (nullCell cell))) ∧
        ∀ a p i, (s.feed f).latest = some (a, p) → 0 < m.feedRings[f].cells → s.feedHolds m f a → s.feedIndex m f a i →
          exec (.takeRead c) s = .next
            ((started 1 (n - p).toNat).readHeld c (shown.switched (.feed f none) (n - p)) e cell
              (m.feedRings[f].base + 192 * i) (.feed f) (.feed f (some (a + 1)))))

/-- R45, R46, R48, R50, R103, R106, R110 to R114, R127: the ways back to NETWORK. A read taken in RETURN_WAIT whose cell is no entry
cell, or is malformed, is answered with a null cell while the null count is below the return limit; at the limit the channel makes a
forced return, and the read is one of NETWORK; at an entry cell it returns, and the read is one of NETWORK. In INSERT an entry cell
ends the avail with CUE_IN, BREAK_END or TIMEOUT, cuts its clip and returns the channel, and the read is one of NETWORK; otherwise
each due head later than the tolerance is retired OVERLAP, and the read stays in hand for the clip's next cell. A clip that is
exhausted is COMPLETE, and the pod's next clip starts at the anchor that the clips before it give, at any cell. After the last one
the avail ends COMPLETE or SHORT, and the read is one of RETURN_WAIT. In SUBST an entry cell at or after the end of the window ends
it and returns the channel; the avail test follows, and no window test. -/
def Obligations.ReturnWaitGivesNullsThenReturns : Prop :=
  ∀ (s : State) (c : Fin 32) (r : ReadyRead) (rest : List ReadyRead) (e : Entry) (cell : List Byte), s.takes c r rest e cell →
    let entry := entryPts ((s.chan c).pidOf .video) cell
    let noted (n : Pts) : Channel := { s.chan c with ready := rest, netPts := some n }
    ((s.chan c).state = .returnWait → (s.chan c).source = .none → entry = none →
      ((s.chan c).nullCount < (s.chan c).config.returnLimit → exec (.takeRead c) s = .next { s with
        up := s.up ++ [⟨e.tag, .ok (cell.take 4 ++ [0x47#8, 0x1F#8, 0xFF#8, 0x10#8] ++ List.replicate 184 0xFF#8)⟩]
        entries := s.entries.filter fun y => y.id ≠ r.entry
        channels := s.channels.set c { s.chan c with
          ready := rest
          nullCount := (s.chan c).nullCount + 1
          counts := { (s.chan c).counts with
            nulls := sat (s.chan c).counts.nulls
            malformed := if wellFormed cell then (s.chan c).counts.malformed else sat (s.chan c).counts.malformed } } }) ∧
      ((s.chan c).config.returnLimit ≤ (s.chan c).nullCount →
        exec (.takeRead c) s = exec (.takeRead c)
          { s.record ⟨.returnForced, c, 0, 0, (s.chan c).nullCount, ((s.chan c).netPts.getD 0).toNat⟩ with
            channels := s.channels.set c (s.chan c).back } ∧
        ∃ t out, exec (.takeRead c) s = .next t ∧ t.up = s.up ++ [⟨e.tag, .ok out⟩] ∧
          (t.chan c).state = .network ∧ (t.chan c).source = .network ∧ (t.chan c).delta = 0 ∧
          t.log = (s.record ⟨.returnForced, c, 0, 0, (s.chan c).nullCount, ((s.chan c).netPts.getD 0).toNat⟩).log ∧
          (roleOfPid (s.chan c).config.roles (cellPid cell) = none → out = cell) ∧
          (∀ d : Fin 32, d ≠ c → t.chan d = s.chan d) ∧
          t = { s with
            up := t.up
            entries := s.entries.filter fun y => y.id ≠ r.entry
            bus := t.bus
            log := t.log
            channels := t.channels })) ∧
    (∀ n, (s.chan c).state = .returnWait → entry = some n →
      exec (.takeRead c) s = exec (.takeRead c) { s with channels := s.channels.set c (s.chan c).back } ∧
      ((s.chan c).noneDue n → s.noWindowAt (s.chan c).windows n →
        exec (.takeRead c) s = .next (s.networkAnswered c (noted n).back e cell))) ∧
    (∀ (av : CurrentAvail) (k : Fin 64) (i : Nat), (s.chan c).state = .insert → (s.chan c).avail = some av →
      (s.chan c).source = .clip k i →
      let left := s.clips.set k { s.clip k with plays := (s.clip k).plays - 1 }
      let clipEnded (reason : Nat) : State := { s.record ⟨.clipEnd, c, reason, k, i, (s.clip k).cells⟩ with clips := left }
      let stays (n : Pts) := (∀ code, ¬ av.returnsFor (s.chan c).config.maxBreak n code) ∧
        ∀ ev, (s.chan c).queue.head? = some ev → atOrAfter n ev.time = true →
          (n - ev.time).toNat ≤ (s.chan c).config.lateTolerance
      (∀ n code, entry = some n → av.returnsFor (s.chan c).config.maxBreak n code →
        let finished := (clipEnded 2).record (av.over c code n)
        exec (.takeRead c) s = exec (.takeRead c) { finished with channels := s.channels.set c (s.chan c).availOver.back } ∧
        ((s.chan c).noneDue n → s.noWindowAt (s.chan c).windows n →
          exec (.takeRead c) s = .next (finished.networkAnswered c (noted n).availOver.back e cell))) ∧
      (∀ n ev more, entry = some n → (∀ code, ¬ av.returnsFor (s.chan c).config.maxBreak n code) →
        (s.chan c).queue = ev :: more → atOrAfter n ev.time = true → (s.chan c).config.lateTolerance < forward n ev.time →
        exec (.takeRead c) s = exec (.takeRead c) (s.headMissed c ev more 4 n)) ∧
      (∀ n, entry = some n → stays n → i ≠ (s.clip k).cells → exec (.takeRead c) s = .next
        (s.readHeld c (noted n) e cell ((s.clip k).base + 192 * i) (.clip k) (.clip k (i + 1)))) ∧
      (entry = none → i ≠ (s.clip k).cells → exec (.takeRead c) s = .next
        (s.readHeld c ((s.chan c).taking rest cell) e cell ((s.clip k).base + 192 * i) (.clip k) (.clip k (i + 1)))) ∧
      (∀ (next : Fin 64) (anchor p0 : Pts) (d : Nat) (ch : Channel), i = (s.clip k).cells →
        (entry = none ∧ ch = (s.chan c).taking rest cell) ∨ (∃ n, entry = some n ∧ stays n ∧ ch = noted n) →
        av.pod[av.podIndex + 1]? = some next → (s.chan c).clipAnchor = some anchor → (s.clip k).duration = some d →
        (s.clip next).p0 = some p0 →
        let p := anchor + BitVec.ofNat 33 d
        exec (.takeRead c) s = .next
          (({ (clipEnded 1).record ⟨.clipStart, c, 0, next, p.toNat, (p - p0).toNat⟩ with
            clips := left.set next { left[next] with plays := left[next].plays + 1 } } : State).readHeld c
              { (ch.switched (.clip next 0) (p - p0)) with
                avail := some { av with podIndex := av.podIndex + 1 }
                clipAnchor := some p } e cell (s.clip next).base (.clip next) (.clip next 1))) ∧
      (∀ code, i = (s.clip k).cells → av.pod[av.podIndex + 1]? = none →
        let point := (s.chan c).outPts.getD 0
        let ended := (clipEnded 1).record (av.over c code point)
        (entry = none → 0 < (s.chan c).config.returnLimit →
          ((∀ q, av.ret = some q → ∃ n, (s.chan c).netPts = some n ∧ atOrAfter n q.1 = true) ∧ code = 1) ∨
            (∃ q, av.ret = some q ∧ (∀ n, (s.chan c).netPts = some n → atOrAfter n q.1 = false) ∧ code = 2) →
          exec (.takeRead c) s = .next (ended.readAnswered c
            ({ ((s.chan c).taking rest cell).availOver with state := .returnWait, source := .none, nullCount := 1 } :
              Channel).nulled e (nullCell cell))) ∧
        ∀ n, entry = some n → stays n →
          ((∀ q, av.ret = some q → atOrAfter n q.1 = true) ∧ code = 1) ∨
            (∃ q, av.ret = some q ∧ atOrAfter n q.1 = false ∧ code = 2) →
          ((∀ x ∈ (s.chan c).queue, ∃ first more, x.pod = first :: more ∧ (s.clip first).cells ≠ 0) →
            exec (.takeRead c) s = exec (.takeRead c) { ended with
              channels := s.channels.set c ({ (s.chan c).availOver with nullCount := 0 } : Channel).back }) ∧
          ((s.chan c).noneDue n → s.noWindowAt (s.chan c).windows n → exec (.takeRead c) s = .next
            (ended.networkAnswered c ({ (noted n).availOver with nullCount := 0 } : Channel).back e cell)))) ∧
    ∀ n id w, (s.chan c).state = .subst → entry = some n → (s.chan c).window = some id → s.window id = some w → w.channel = c →
      atOrAfter n w.stop = true →
      let left := (s.chan c).windows.filter fun k => k ≠ id
      let ended : State := { s.record ⟨.windowEnd, c, 1, id, n.toNat, w.stop.toNat⟩ with windows := s.windows.set id none }
      (∃ t, exec (.takeRead c) { ended with
          channels := s.channels.set c ({ s.chan c with windows := [], window := none } : Channel).back } = .next t ∧
        exec (.takeRead c) s = .next { t with channels := t.channels.set c { t.chan c with windows := left } }) ∧
      ((s.chan c).noneDue n → exec (.takeRead c) s = .next
        (ended.networkAnswered c ({ noted n with windows := left, window := none } : Channel).back e cell))

/-- R44, R49 to R51, R57: the source cell of the read in hand. An orphaned read is answered with a null cell whatever comes; so is a
read whose cell is malformed, on a PID of no role, or of a role for which the channel has no PID, and a feed read answered ERROR,
which is counted. Any other cell is given the channel's PID of its role, rebased by the channel's offset, passed through the
continuity rules, and sent with the arrival stamp of the network cell. A clip read answered ERROR gives a null cell and ends the
avail (R77, R114, R115, R117): CLIP_END MEMORY_ERROR with the number of cells taken and then AVAIL_END MEMORY_ERROR with the end
point O, or 0, are handed over, the clip loses its play, the event id becomes recent, and the channel waits in RETURN_WAIT. -/
def Obligations.SourceCellsAreRewritten : Prop :=
  ∀ (s : State) (x : Txn) (e : Entry) (c : Fin 32) (r : ReadInHand) (kind : SourceKind) (a : Answer) (command : Instr)
    (role : List Byte → Option Role),
    s.bus.issuedTxn x.id = some x → x.owner = .sourceRead c kind → (s.chan c).inHand = some r → r.source = x.id →
    s.entry r.entry = some e →
    (∃ n, kind = .clip n ∧ command = .clipCellArrival x.id a ∧
      role = fun cell => ((s.clip n).map.find? fun p => p.1 = cellPid cell).map Prod.snd) ∨
    (∃ f, kind = .feed f ∧ command = .feedCellArrival x.id a ∧
      role = fun cell => roleOfPid (s.feed f).roles (cellPid cell)) →
    let answered (ch : Channel) (out : List Byte) : State := { s with
      up := s.up ++ [⟨e.tag, .ok out⟩]
      entries := s.entries.filter fun y => y.id ≠ r.entry
      bus := { s.bus with txns := s.bus.txns.filter fun y => y.id ≠ x.id }
      channels := s.channels.set c ch }
    let nulled : Channel := { s.chan c with
      inHand := none
      counts := { (s.chan c).counts with nulls := sat (s.chan c).counts.nulls } }
    (r.orphaned = true → exec command s = .next (answered nulled (nullCell r.cell))) ∧
    (r.orphaned = false → (∃ f, kind = .feed f) → a = .error →
      exec command s = .next (answered { nulled with
        counts := { nulled.counts with readErrors := sat nulled.counts.readErrors } } (nullCell r.cell))) ∧
    (∀ n i av, r.orphaned = false → kind = .clip n → a = .error → (s.chan c).source = .clip n i → (s.chan c).avail = some av →
      exec command s = .next { (answered { nulled with
          avail := none
          clipAnchor := none
          recent := joinRecent 4 (s.chan c).recent av.event
          state := .returnWait
          source := .none
          nullCount := 0 } (nullCell r.cell)).recordAll
            [⟨.clipEnd, c, 3, n, i, (s.clip n).cells⟩, av.over c 7 ((s.chan c).outPts.getD 0)] with
        clips := s.clips.set n { s.clip n with plays := (s.clip n).plays - 1 } }) ∧
    ∀ cell, r.orphaned = false → a = .ok cell →
      (wellFormed cell = false ∨ role cell = none ∨ (∃ q, role cell = some q ∧ (s.chan c).pidOf q = none) →
        exec command s = .next (answered nulled (nullCell r.cell))) ∧
      ∀ q pid, wellFormed cell = true → role cell = some q → (s.chan c).pidOf q = some pid →
        let out := ({ s.chan c with inHand := none } : Channel).emit q (rebase (setPid cell pid) (s.chan c).delta)
        exec command s = .next (answered out.1 (r.cell.take 4 ++ out.2.drop 4))

/-- R25, R55: rebasing by an offset moves every readable PTS and DTS and the base of a readable PCR by it, whose extension stays.
Every other bit of the cell is as it was: the bytes outside those fields, the marker bits and the high bits that stand among the
bits of a PTS or a DTS, and the bits of byte 14 after the PCR base. -/
def Obligations.RebasingMovesEveryTimestamp : Prop :=
  ∀ (cell : List Byte) (d : Pts), cell.length = 192 →
    let out := rebase cell d
    let inStamp (payload : Option Nat) (off i : Nat) := ∃ p, payload = some p ∧ p + off ≤ i ∧ i < p + off + 5
    let marked (payload : Option Nat) (off : Nat) := ∀ p, payload = some p →
      (cellByte out (p + off)).extractLsb' 4 4 = (cellByte cell (p + off)).extractLsb' 4 4 ∧
      ∀ k, k = 0 ∨ k = 2 ∨ k = 4 → (cellByte out (p + off + k)).getLsbD 0 = (cellByte cell (p + off + k)).getLsbD 0
    out.length = 192 ∧ out.take 10 = cell.take 10 ∧
    readPts out = (readPts cell).map (· + d) ∧ readDts out = (readDts cell).map (· + d) ∧
    readPcr out = (readPcr cell).map (fun total => (total + 300 * d.toNat) % 2576980377600) ∧
    (∀ i, ¬ inStamp (ptsPayload cell) 9 i → ¬ inStamp (dtsPayload cell) 14 i → ¬ (pcrReadable cell = true ∧ 10 ≤ i ∧ i < 15) →
      cellByte out i = cellByte cell i) ∧
    marked (ptsPayload cell) 9 ∧ marked (dtsPayload cell) 14 ∧
    (pcrReadable cell = true → (cellByte out 14).extractLsb' 0 7 = (cellByte cell 14).extractLsb' 0 7) ∧
    (readPts cell = none → readPcr cell = none → out = cell)

/-! ## Directives and responses -/

/-- R186: while the head differs from the tail, U + Q is below 64, no fetch is outstanding and the last directive has been taken by
its block (log entry 8), the unit counts the fetch in Q and asks in class 3 for the 64 bytes of the slot at the head; otherwise it
fetches nothing. -/
def Obligations.DirectiveFetchReadsTheHeadSlot : Prop :=
  ∀ (s : State) (m : RegionMap), s.map = some m → s.boot = .running →
    (s.dir.head ≠ s.dir.tail → s.dir.unconsumed + s.dir.owed < 64 → s.dir.fetching = false → s.dir.dispatched = none →
      exec .directiveFetch s = .next { s with
        dir := { s.dir with owed := s.dir.owed + 1, fetching := true }
        bus := { s.bus with
          txns := s.bus.txns ++ [⟨s.bus.next, s.bus.next, 3, false, m.directiveBase + 64 * s.dir.head, 64, [], [],
            .directiveFetch s.dir.head, false⟩]
          next := s.bus.next + 1 } }) ∧
    (s.dir.head = s.dir.tail ∨ 64 ≤ s.dir.unconsumed + s.dir.owed ∨ s.dir.fetching = true ∨ s.dir.dispatched ≠ none →
      exec .directiveFetch s = .next s)

/-- R186, R187: a completed fetch moves the head on. A record of kind 1 to 15 is handed to its block as the directive of its kind,
with the sequence number, the slot and the fields of its record (section 11.3); that it waits there until the block takes it is the
model's choice (log entry 8). An unknown kind and an ERROR are answered at once; that the count of fetch errors stays at 65,535 is
the model's choice (log entry 27). -/
def Obligations.FetchedDirectivesAreDispatched : Prop :=
  ∀ (s : State) (x : Txn) (slot : Nat), s.bus.issuedTxn x.id = some x → x.owner = .directiveFetch slot →
    let fetched : State := { s with
      dir := { s.dir with head := (s.dir.head + 1) % 64, fetching := false }
      bus := { s.bus with txns := s.bus.txns.filter fun y => y.id ≠ x.id } }
    exec (.fetchComplete x.id .error) s = .next
      (State.respond { fetched with dir := { fetched.dir with fetchErrors := sat s.dir.fetchErrors } } 0xFFFF 0xFF .fetchError 0
        slot) ∧
    ∀ record,
      let f (off len : Nat) := leField record off len
      let seq := f 0 2
      let handed (kind : Nat) (c : Instr) := f 2 1 = kind →
        exec (.fetchComplete x.id (.ok record)) s = .next { fetched with dir := { fetched.dir with dispatched := some c } }
      (f 2 1 = 0 ∨ 15 < f 2 1 →
        exec (.fetchComplete x.id (.ok record)) s = .next (fetched.respond seq (f 2 1) .unknownKind 0 slot)) ∧
      handed 1 (.channelSet seq slot
        { channel := f 4 1
          enable := f 5 1
          pids := [f 6 2, f 8 2, f 10 2, f 12 2, f 14 2, f 16 2]
          cuePid := f 18 2
          policy := f 20 1
          lateTolerance := f 24 4
          maxBreak := f 28 4
          returnLimit := f 32 4
          clockTolerance := f 36 4 }) ∧
      handed 2 (.clipLoad seq slot
        { clip := f 4 1
          mapCount := f 5 1
          base := f 8 8
          cells := f 16 4
          crc := f 20 4
          entries := [(f 24 2, f 26 1), (f 27 2, f 29 1), (f 30 2, f 32 1), (f 33 2, f 35 1), (f 36 2, f 38 1), (f 39 2, f 41 1),
            (f 42 2, f 44 1), (f 45 2, f 47 1)] }) ∧
      handed 3 (.clipFree seq slot (f 4 1)) ∧
      handed 4 (.bind seq slot
        { channel := f 4 1, podLength := f 5 1, key := f 6 2, uses := f 8 1, clips := [f 9 1, f 10 1, f 11 1, f 12 1] }) ∧
      handed 5 (.unbind seq slot (f 4 1) (f 6 2)) ∧
      handed 6 (.availAbort seq slot (f 4 1) (f 8 4)) ∧
      handed 7 (.windowAdd seq slot { window := f 4 1, channel := f 5 1, feed := f 6 1, start := f 8 8, stop := f 16 8 }) ∧
      handed 8 (.windowDrop seq slot (f 4 1)) ∧
      handed 9 (.groupEdit seq slot (f 4 1) (f 5 1) (f 8 4)) ∧
      handed 10 (.alertSend seq slot { alert := f 4 2, level := f 6 1, groupMask := f 7 1, feed := f 8 1, seconds := f 10 2 }) ∧
      handed 11 (.alertClear seq slot (f 4 1)) ∧
      handed 12 (.alertMode seq slot (f 4 1)) ∧
      handed 13 (.logClose seq slot) ∧
      handed 14 (.logRestart seq slot) ∧
      handed 15 (.status seq slot (f 4 1) (f 5 1) (f 8 8))

/-- R188, with the bytes of section 11.1: a response handed for a directive takes Q down and U up, and its 16-byte entry, whose
spare bytes are 0, is asked for in class 2 at the slot of the response tail, which moves on. The completed entry write asks for the
response-tail word with the tail as it stands, and the completed response-tail word publishes one entry and so asserts ATTN; an
ERROR on either is counted and the steps go on. That this count stays at 65,535 is the model's choice (log entry 27). -/
def Obligations.ResponsesAreWrittenAndPublished : Prop :=
  ∀ (s : State) (m : RegionMap), s.map = some m →
    (∀ (seq kind detail slot : Nat) (r : DirectiveResult),
      ∃ bytes : List Byte, bytes.length = 16 ∧ leField bytes 0 2 = seq % 65536 ∧ leField bytes 2 1 = kind % 256 ∧
        leField bytes 3 1 = r.code ∧ leField bytes 4 1 = detail % 256 ∧ leField bytes 5 1 = slot % 256 ∧
        leField bytes 6 2 = 0 ∧ leField bytes 8 4 = s.house % 2 ^ 32 ∧ leField bytes 12 4 = 0 ∧
        s.respond seq kind r detail slot = { s with
          dir := { s.dir with
            owed := s.dir.owed - 1
            unconsumed := s.dir.unconsumed + 1
            responseTail := (s.dir.responseTail + 1) % 64 }
          bus := { s.bus with
            txns := s.bus.txns ++ [⟨s.bus.next, s.bus.next, 2, true, m.responseBase + 16 * s.dir.responseTail, 16, bytes,
              List.replicate 16 true, .responseEntry, false⟩]
            next := s.bus.next + 1 } }) ∧
    ∀ (x : Txn) (a : Answer), s.bus.issuedTxn x.id = some x →
      let errors := if a = .error then min (s.dir.writeErrors + 1) 65535 else s.dir.writeErrors
      (x.owner = .responseEntry → exec (.responseEntryWriteComplete x.id a) s = .next { s with
        dir := { s.dir with writeErrors := errors }
        bus := { s.bus with
          txns := (s.bus.txns.filter fun y => y.id ≠ x.id) ++ [⟨s.bus.next, s.bus.next, 2, true, m.responseBase + 1040, 4,
            leBytes 4 s.dir.responseTail, [true, true, true, true], .responseTail, false⟩]
          next := s.bus.next + 1 } }) ∧
      (x.owner = .responseTail → ∃ t, exec (.responseTailWriteComplete x.id a) s = .next t ∧ t.attn = true ∧
        t = { s with
          dir := { s.dir with writeErrors := errors, published := s.dir.published + 1 }
          bus := { s.bus with txns := s.bus.txns.filter fun y => y.id ≠ x.id } })

/-! ## Channel contexts -/

/-- R39 to R41, R161: an accepted enabling CHANNEL_SET of an OFF channel stores its configuration with the limits clamped and starts
the context in NETWORK; when the current alert's target set holds the channel, it starts in ALERT on the alert's feed instead, with
the cursor on the feed's latest entry and offset 0, or waiting, and ALERT_START ENABLED comes before the answer (R160). Of a channel
in NETWORK it replaces the configuration; a role whose PID changed starts its continuity anew, and a changed VIDEO PID forgets the
ingest side, O and N. The settle count of a tracker set UNSEEN is the model's choice (log entry 30). -/
def Obligations.ChannelSetEnablesOrReconfigures : Prop :=
  ∀ (s : State) (seq slot : Nat) (f : ChannelSetFields) (c : Fin 32) (ring : Ring) (policy : FullPolicy)
    (config : ChannelConfig),
    s.inHand (.channelSet seq slot f) → f.channel = c → f.enable ≠ 0 →
    s.channelRing c = some ring → (f.policy = 0 ∧ policy = .keep ∨ f.policy = 1 ∧ policy = .earliest) →
    config.policy = policy → config.roles = roleMapOf f.pids → config.cuePid = (if f.cuePid = 0xFFFF then none else some f.cuePid) →
    (if f.lateTolerance = 0xFFFFFFFF then config.lateTolerance = 45000
      else config.lateTolerance = max 0 (min 900000 f.lateTolerance)) →
    (if f.maxBreak = 0xFFFFFFFF then config.maxBreak = 21600000
      else config.maxBreak = max 90000 (min 108000000 f.maxBreak)) →
    (if f.returnLimit = 0xFFFFFFFF then config.returnLimit = 4096
      else config.returnLimit = max 64 (min 65535 f.returnLimit)) →
    (if f.clockTolerance = 0xFFFFFFFF then config.clockTolerance = 270000
      else config.clockTolerance = max 2700 (min 27000000 f.clockTolerance)) →
    (roleMapOf f.pids)[(0 : Fin 6)].isSome = true →
    (∀ (i : Fin 6) (p : Nat), (roleMapOf f.pids)[i] = some p → p ≤ 8190 ∧
      ∀ j : Fin 6, (roleMapOf f.pids)[j] = some p → j = i) →
    (∀ p, config.cuePid = some p → p ≤ 8190) →
    let started : Channel := { Channel.reset with
      config := config
      state := .network
      source := .network
      avail := (s.chan c).avail
      clipAnchor := (s.chan c).clipAnchor
      window := (s.chan c).window
      inHand := (s.chan c).inHand
      ready := (s.chan c).ready
      queue := (s.chan c).queue
      recent := (s.chan c).recent
      windows := (s.chan c).windows }
    let kept : Channel := { s.chan c with
      config := config
      continuity := Vector.ofFn fun i : Fin 6 =>
        if (s.chan c).config.roles[i] = config.roles[i] then (s.chan c).continuity[i] else Continuity.reset }
    ((s.chan c).state = .network → (s.chan c).config.roles[(0 : Fin 6)] = config.roles[(0 : Fin 6)] →
      exec (.channelSet seq slot f) s = .next
        (({ s.taken with channels := s.channels.set c kept } : State).respond seq 1 .done 0 slot)) ∧
    ((s.chan c).state = .network → (s.chan c).config.roles[(0 : Fin 6)] ≠ config.roles[(0 : Fin 6)] →
      let forgotten : State := { s.taken with
        channels := s.channels.set c
          { kept with ingestPts := none, clock := ClockTracker.reset, outPts := none, netPts := none } }
      ((s.chan c).clock.status ≠ .steady → exec (.channelSet seq slot f) s = .next (forgotten.respond seq 1 .done 0 slot)) ∧
      ∀ total stamp, (s.chan c).clock.status = .steady → (s.chan c).clock.last = some (total, stamp) →
        exec (.channelSet seq slot f) s = .next
          ((forgotten.record ⟨.clockUnsteady, c, 3, 0, total / 300, 0⟩).respond seq 1 .done 0 slot)) ∧
    ((s.chan c).state = .off → (∀ x, s.alerts.current = some x → ∀ set, x.target = some set → set.getLsbD c = false) →
      exec (.channelSet seq slot f) s = .next
        (({ s.taken with channels := s.channels.set c started } : State).respond seq 1 .done 0 slot)) ∧
    ∀ x set, (s.chan c).state = .off → s.alerts.current = some x → x.target = some set → set.getLsbD c = true →
      let latest := (s.feed (alertFeed x.feed)).latest
      let alerted : Channel := ({ started with state := .alert } : Channel).cursorOn (alertFeed x.feed) latest
      exec (.channelSet seq slot f) s = .next
        (({ s.taken.record (x.starts c 3) with channels := s.channels.set c alerted } : State).respond seq 1 .done 0 slot) ∧
      (∀ e p, latest = some (e, p) → alerted.source = .feed (alertFeed x.feed) (some e) ∧ alerted.delta = 0) ∧
      (latest = none → alerted.source = .feed (alertFeed x.feed) none)

/-- R39, R42, R43, R77, R103, R114, R115, R133: the tests of CHANNEL_SET in their order, of which a refused one changes nothing but
the directive unit's side of its response, and the disable of a channel. CLIP_END CUT and AVAIL_END DISABLED of a playing avail,
EVENT_MISSED DISABLED of each queued event and WINDOW_END DISABLED of each window are handed over in this order. A playing clip
loses its play, the queue, the recent ids and the windows of the channel are emptied, and the context takes its reset values but for
its configuration, its counts, its ready reads and the read in hand, which is orphaned. The settle count of a tracker set UNSEEN is
the model's choice (log entry 30). -/
def Obligations.ChannelSetRefusesOrDisables : Prop :=
  ∀ (s : State) (seq slot : Nat) (f : ChannelSetFields), s.inHand (.channelSet seq slot f) →
    (31 < f.channel → exec (.channelSet seq slot f) s = .next (s.taken.respond seq 1 .refusedRange 0 slot)) ∧
    ∀ c : Fin 32, f.channel = c →
      (f.enable = 0 → (s.chan c).state = .off →
        exec (.channelSet seq slot f) s = .next (s.taken.respond seq 1 .done 0 slot)) ∧
      (f.enable ≠ 0 →
        ((s.chan c).state ≠ .off → (s.chan c).state ≠ .network →
          exec (.channelSet seq slot f) s = .next (s.taken.respond seq 1 .refusedState 0 slot)) ∧
        ((s.chan c).state = .off ∨ (s.chan c).state = .network →
          s.channelRing c = none ∨ 1 < f.policy ∨ (roleMapOf f.pids)[(0 : Fin 6)] = none ∨
            (∃ (i : Fin 6) (p : Nat), (roleMapOf f.pids)[i] = some p ∧
              (8190 < p ∨ ∃ j : Fin 6, j ≠ i ∧ (roleMapOf f.pids)[j] = some p)) ∨
            (f.cuePid ≠ 0xFFFF ∧ 8190 < f.cuePid) →
          exec (.channelSet seq slot f) s = .next (s.taken.respond seq 1 .refusedRange 0 slot))) ∧
      (f.enable = 0 → (s.chan c).state ≠ .off → s.windowsListed →
        let missed := (s.chan c).queue.map fun ev => (⟨.eventMissed, c, 8, ev.event, ev.time.toNat, 0⟩ : Record)
        let removed := (s.chan c).windows.filterMap fun id => (s.window id).map fun w =>
          (⟨.windowEnd, c, 4, id, ((s.chan c).netPts.getD 0).toNat, w.stop.toNat⟩ : Record)
        exec (.channelSet seq slot f) s = .next
          (({ s.taken.recordAll (s.cutRecords c 9 ++ missed ++ removed) with
            channels := s.channels.set c { Channel.reset with
              config := (s.chan c).config
              counts := (s.chan c).counts
              malformedIngest := (s.chan c).malformedIngest
              inHand := (s.chan c).inHand.map fun r => { r with orphaned := true }
              ready := (s.chan c).ready }
            clips := Vector.ofFn fun n =>
              if (s.chan c).playsClip n then { s.clip n with plays := (s.clip n).plays - 1 } else s.clip n
            windows := Vector.ofFn fun id => (s.window id).filter fun w => w.channel ≠ c } : State).respond seq 1 .done 0 slot))

/-! ## Clip store and bindings -/

/-- R64 to R67: the tests of CLIP_LOAD in their order, and an accepted one. Its values are stored, its response is owed, and the
clip joins the verify queue, or, with the store idle, becomes VERIFYING at once with the read of its cell 0 asked for in class 4.
While the read of a pass that CLIP_FREE ended is outstanding, the new pass waits with its own (the model's reading, log entry
31). -/
def Obligations.ClipLoadIsTestedAndQueued : Prop :=
  ∀ (s : State) (seq slot : Nat) (f : ClipLoadFields), s.inHand (.clipLoad seq slot f) →
    (63 < f.clip → exec (.clipLoad seq slot f) s = .next (s.taken.respond seq 2 .refusedRange 0 slot)) ∧
    ∀ (n : Fin 64) (m : RegionMap), f.clip = n → s.map = some m →
      let inUse := (s.clip n).state = .queued ∨ (s.clip n).state = .verifying ∨ (s.clip n).state = .ready
      let outOfRange := f.cells = 0 ∨ 1048576 < f.cells ∨ f.base % 64 ≠ 0 ∨ f.base < m.clipArea.base ∨
        m.clipArea.base + m.clipArea.size < f.base + 192 * f.cells ∨ f.mapCount = 0 ∨ 8 < f.mapCount ∨
        (∃ e ∈ f.entries.take f.mapCount, 8190 < e.1 ∨ 5 < e.2) ∨ (∀ e ∈ f.entries.take f.mapCount, e.2 ≠ 0) ∨
        ∃ i j a b, i < j ∧ j < f.mapCount ∧ f.entries[i]? = some a ∧ f.entries[j]? = some b ∧ (a.1 = b.1 ∨ a.2 = b.2)
      (inUse → exec (.clipLoad seq slot f) s = .next (s.taken.respond seq 2 .refusedState 0 slot)) ∧
      (¬ inUse → outOfRange → exec (.clipLoad seq slot f) s = .next (s.taken.respond seq 2 .refusedRange 0 slot)) ∧
      ∀ roles : List (Nat × Role), ¬ inUse → ¬ outOfRange →
        (roles.map fun e => (e.1, e.2.idx.val)) = f.entries.take f.mapCount →
        ((∃ k : Fin 64, k ≠ n ∧ (s.clip k).state ≠ .free ∧ ∃ b, (s.clip k).has b ∧ f.base ≤ b ∧ b < f.base + 192 * f.cells) →
          exec (.clipLoad seq slot f) s = .next (s.taken.respond seq 2 .refusedState 0 slot)) ∧
        ((∀ k : Fin 64, k ≠ n → (s.clip k).state ≠ .free → ∀ b, (s.clip k).has b → ¬ (f.base ≤ b ∧ b < f.base + 192 * f.cells)) →
          let loaded : Clip :=
            { s.clip n with
              state := .queued
              base := f.base
              cells := f.cells
              expectedCrc := BitVec.ofNat 32 f.crc
              map := roles
              p0 := none
              period := none
              pMax := none
              duration := none
              firstPcr := none
              failure := none
              cursor := 0
              crc := 0xFFFFFFFF#32
              owed := some ⟨seq, slot⟩ }
          ((∃ k : Fin 64, (s.clip k).state = .verifying) → exec (.clipLoad seq slot f) s = .next { s.taken with
            clips := s.clips.set n loaded
            verifyQueue := s.verifyQueue ++ [n] }) ∧
          ((∀ k : Fin 64, (s.clip k).state ≠ .verifying) → s.verifyQueue = [] →
            ((∀ x ∈ s.bus.txns, ∀ k, x.owner ≠ .verify k) → exec (.clipLoad seq slot f) s = .next { s.taken with
              clips := s.clips.set n { loaded with state := .verifying }
              verifyRead := some s.bus.next
              bus := { s.bus with
                txns := s.bus.txns ++ [⟨s.bus.next, s.bus.next, 4, false, f.base, 192, [], [], .verify n, false⟩]
                next := s.bus.next + 1 } }) ∧
            ((∃ x ∈ s.bus.txns, ∃ k, x.owner = .verify k) → exec (.clipLoad seq slot f) s = .next { s.taken with
              clips := s.clips.set n { loaded with state := .verifying } })))

/-- R67 to R73: the response of a verification read. One of a pass that CLIP_FREE ended is discarded, and the pass that waited for
it asks for its own read (log entry 31). A cell of the current pass is folded into the CRC and examined, and either the pass goes on
with the next cell, or it ends with BAD_CELL, NO_ENTRY, TIMING or MEMORY_ERROR at this cell, or after the last cell with NO_ENTRY,
TIMING, NO_CLOCK or CRC_MISMATCH, or READY. At its end the clip's record, the log record, the owed response and the next pass
follow. -/
def Obligations.VerificationReadsEndOrGoOn : Prop :=
  ∀ (s : State) (x : Txn) (n : Fin 64) (a : Answer), s.bus.issuedTxn x.id = some x → x.owner = .verify n →
    s.oneVerifies →
    let left : State := { s with bus := { s.bus with txns := s.bus.txns.filter fun y => y.id ≠ x.id } }
    let asks (u : State) (k : Fin 64) (y : Clip) : State := { u with
      clips := u.clips.set k y
      verifyRead := some u.bus.next
      bus := { u.bus with
        txns := u.bus.txns ++ [⟨u.bus.next, u.bus.next, 4, false, y.base + 192 * y.cursor, 192, [], [], .verify k, false⟩]
        next := u.bus.next + 1 } }
    (s.verifyRead ≠ some x.id →
      ((∀ k : Fin 64, (s.clip k).state ≠ .verifying) → exec (.verifyReadComplete x.id a) s = .next left) ∧
      ∀ k : Fin 64, (s.clip k).state = .verifying → exec (.verifyReadComplete x.id a) s = .next (asks left k (s.clip k))) ∧
    ∀ owed : Ticket, s.verifyRead = some x.id → (s.clip n).owed = some owed →
      let was := s.clip n
      let follows (u : State) : State := match s.verifyQueue with
        | [] => u
        | k :: more => asks { u with verifyQueue := more } k { s.clip k with state := .verifying, cursor := 0 }
      let ends (y : Clip) (r : Record) (result : DirectiveResult) (detail : Nat) : State :=
        follows (({ ({ left with verifyRead := none } : State).record r with
          clips := s.clips.set n { y with owed := none } } : State).respond owed.seq 2 result detail owed.slot)
      let fails (y : Clip) (why : ClipFailure) (code second : Nat) := exec (.verifyReadComplete x.id a) s = .next
        (ends { y with
          state := .failed
          failure := some why
          p0 := none
          period := none
          pMax := none
          duration := none
          firstPcr := none } ⟨.clipFailed, 255, code, n, was.cursor, second⟩ .failed code)
      let video := (was.map.find? fun p => p.2 = .video).map Prod.fst
      (a = .error → fails was .memoryError 6 0) ∧
      ∀ cell, a = .ok cell →
        (wellFormed cell = false → fails was .badCell 1 0) ∧
        (wellFormed cell = true →
          let folded : Clip := { was with crc := crc32Fold was.crc ((cell.drop 4).take 188) }
          let timed : Clip := { folded with firstPcr := was.firstPcr.or (readPcr cell) }
          (video = some (cellPid cell) → was.p0 = none → entryPts video cell = none → fails folded .noEntry 2 0) ∧
          (∀ first p, video = some (cellPid cell) → was.p0 = some first → readPts cell = some p →
            2 ^ 31 ≤ (p - first).toNat ∨ (was.period = none ∧ ((p - first).toNat = 0 ∨ 9000 < (p - first).toNat)) →
            fails folded .timing 3 (p - first).toNat) ∧
          ∀ y : Clip,
            (video ≠ some (cellPid cell) ∧ y = folded) ∨
              (video = some (cellPid cell) ∧ was.p0 = none ∧
                ∃ p, entryPts video cell = some p ∧ y = { timed with p0 := some p, pMax := some p }) ∨
              (∃ first, video = some (cellPid cell) ∧ was.p0 = some first ∧ readPts cell = none ∧ y = timed) ∨
              (∃ first p, video = some (cellPid cell) ∧ was.p0 = some first ∧ readPts cell = some p ∧
                (p - first).toNat < 2 ^ 31 ∧ (was.period = none → 1 ≤ (p - first).toNat ∧ (p - first).toNat ≤ 9000) ∧
                y = { timed with
                  period := was.period.or (some (p - first).toNat)
                  pMax := if (was.pMax.getD first - first).toNat < (p - first).toNat then some p else was.pMax }) →
            (was.cursor + 1 < was.cells →
              exec (.verifyReadComplete x.id a) s = .next (asks left n { y with cursor := was.cursor + 1 })) ∧
            (was.cells ≤ was.cursor + 1 →
              (y.p0 = none → fails y .noEntry 2 0) ∧
              ∀ first, y.p0 = some first →
                (y.period = none → fails y .timing 3 0) ∧
                ∀ period, y.period = some period →
                  (y.firstPcr = none → fails y .noClock 4 0) ∧
                  (y.firstPcr ≠ none →
                    (y.crc ≠ y.expectedCrc → fails y .crcMismatch 5 y.crc.toNat) ∧
                    (y.crc = y.expectedCrc →
                      let duration := (y.pMax.getD first - first).toNat + period
                      exec (.verifyReadComplete x.id a) s = .next
                        (ends { y with state := .ready, duration := some duration, cursor := was.cursor + 1 }
                          ⟨.clipReady, 255, 0, n, duration, first.toNat⟩ .done 0)))))

/-- R74 to R76: the tests of CLIP_FREE in their order. A READY or FAILED clip that nothing names becomes FREE; freeing the VERIFYING
clip cancels its load first, its read will be discarded, and the next clip in the queue becomes VERIFYING and waits for that (the
model's reading, log entry 31). -/
def Obligations.ClipFreeReleasesOrRefuses : Prop :=
  ∀ (s : State) (seq slot clip : Nat), s.inHand (.clipFree seq slot clip) →
    (63 < clip → exec (.clipFree seq slot clip) s = .next (s.taken.respond seq 3 .refusedRange 0 slot)) ∧
    ∀ n : Fin 64, clip = n →
      let refused (r : DirectiveResult) (detail : Nat) := exec (.clipFree seq slot clip) s = .next (s.taken.respond seq 3 r detail slot)
      let inPod := ∃ c : Fin 32, (s.chan c).state = .insert ∧ ∃ a, (s.chan c).avail = some a ∧ n ∈ a.pod
      let bound := ∃ (c : Fin 32) (i : Fin 8) (b : Binding), (s.bindingTable c)[i] = some b ∧ n ∈ b.pod
      let queued := ∃ c : Fin 32, ∃ e ∈ (s.chan c).queue, n ∈ e.pod
      ((s.clip n).state = .free → refused .refusedState 0) ∧
      ((s.clip n).state ≠ .free →
        (0 < (s.clip n).plays → refused .refusedInUse 1) ∧
        ((s.clip n).plays = 0 →
          (inPod → refused .refusedInUse 2) ∧ (¬ inPod → bound → refused .refusedInUse 3) ∧
          (¬ inPod → ¬ bound → queued → refused .refusedInUse 4) ∧
          (¬ inPod → ¬ bound → ¬ queued →
            ((s.clip n).state = .ready ∨ (s.clip n).state = .failed → exec (.clipFree seq slot clip) s = .next
              (({ s.taken with clips := s.clips.set n Clip.reset } : State).respond seq 3 .done 0 slot)) ∧
            ∀ load, (s.clip n).owed = some load → s.oneVerifies →
              ((s.clip n).state = .queued → exec (.clipFree seq slot clip) s = .next
                ((({ s.taken with
                  clips := s.clips.set n Clip.reset
                  verifyQueue := s.verifyQueue.filter fun k => k ≠ n } : State).respond load.seq 2 .cancelled 0
                    load.slot).respond seq 3 .done 0 slot)) ∧
              ((s.clip n).state = .verifying →
                let freed := s.clips.set n Clip.reset
                let answered (u : State) : State := (u.respond load.seq 2 .cancelled 0 load.slot).respond seq 3 .done 0 slot
                (s.verifyQueue = [] → exec (.clipFree seq slot clip) s = .next
                  (answered { s.taken with clips := freed, verifyRead := none })) ∧
                ∀ k more, s.verifyQueue = k :: more → exec (.clipFree seq slot clip) s = .next
                  (answered { s.taken with
                    clips := freed.set k { s.clip k with state := .verifying, cursor := 0 }
                    verifyQueue := more
                    verifyRead := none })))))

/-- R79: the tests of BIND in their order. An accepted one replaces the binding of its key in its slot, or fills an empty slot (the
lowest-numbered, log entry 18), and every other slot stays as it was. -/
def Obligations.BindStoresInItsKeysSlot : Prop :=
  ∀ (s : State) (seq slot : Nat) (f : BindFields), s.inHand (.bind seq slot f) →
    let refused (r : DirectiveResult) := exec (.bind seq slot f) s = .next (s.taken.respond seq 4 r 0 slot)
    (31 < f.channel ∨ (255 < f.key ∧ f.key ≠ 0xFFFF) ∨ f.podLength = 0 ∨ 4 < f.podLength ∨
        (∃ k ∈ f.clips.take f.podLength, 63 < k) → refused .refusedRange) ∧
    ∀ (c : Fin 32) (key : Option Nat) (pod : List (Fin 64)), f.channel = c →
      (key = none ∧ f.key = 0xFFFF ∨ key = some f.key ∧ f.key ≤ 255) → 1 ≤ f.podLength → f.podLength ≤ 4 →
      f.clips.take f.podLength = pod.map Fin.val →
      ((∃ n ∈ pod, (s.clip n).state ≠ .ready) → refused .refusedState) ∧
      ((∀ n ∈ pod, (s.clip n).state = .ready) →
        (∀ i : Fin 8, (∃ b, (s.bindingTable c)[i] = some b ∧ b.key = key) →
          (∀ j : Fin 8, ∀ b, (s.bindingTable c)[j] = some b → b.key = key → j = i) →
          exec (.bind seq slot f) s = .next (({ s.taken with
            bindings := s.bindings.set c ((s.bindingTable c).set i (some ⟨key, f.uses, pod⟩)) } : State).respond seq 4 .done 0
              slot)) ∧
        ((∀ i : Fin 8, ∀ b, (s.bindingTable c)[i] = some b → b.key ≠ key) →
          (∀ i : Fin 8, (s.bindingTable c)[i] = none → (∀ j : Fin 8, j < i → (s.bindingTable c)[j] ≠ none) →
            exec (.bind seq slot f) s = .next (({ s.taken with
              bindings := s.bindings.set c ((s.bindingTable c).set i (some ⟨key, f.uses, pod⟩)) } : State).respond seq 4 .done 0
                slot)) ∧
          ((∀ i : Fin 8, (s.bindingTable c)[i] ≠ none) → refused .refusedFull)))

/-- R80, whole: UNBIND removes the channel's binding of its key and no other, and changes no queued event and no avail. -/
def Obligations.UnbindEmptiesItsKeysSlot : Prop :=
  ∀ (s : State) (seq slot channel key : Nat), s.inHand (.unbind seq slot channel key) →
    (31 < channel ∨ (255 < key ∧ key ≠ 0xFFFF) →
      exec (.unbind seq slot channel key) s = .next (s.taken.respond seq 5 .refusedRange 0 slot)) ∧
    ∀ (c : Fin 32) (k : Option Nat), channel = c → (k = none ∧ key = 0xFFFF ∨ k = some key ∧ key ≤ 255) →
      ((∀ i : Fin 8, ∀ b, (s.bindingTable c)[i] = some b → b.key ≠ k) →
        exec (.unbind seq slot channel key) s = .next (s.taken.respond seq 5 .refusedState 0 slot)) ∧
      ∀ (i : Fin 8) (b : Binding), (s.bindingTable c)[i] = some b → b.key = k →
        (∀ j : Fin 8, ∀ b', (s.bindingTable c)[j] = some b' → b'.key = k → j = i) →
        exec (.unbind seq slot channel key) s = .next
          (({ s.taken with bindings := s.bindings.set c ((s.bindingTable c).set i none) } : State).respond seq 5 .done 0 slot)

/-! ## Avails and windows -/

/-- R115, R116: the tests of AVAIL_ABORT in their order. An accepted one hands over CLIP_END CUT and AVAIL_END ABORTED, takes the
play from the clip, makes the event id recent, and leaves the channel in RETURN_WAIT with its read in hand orphaned. -/
def Obligations.AvailAbortEndsTheAvail : Prop :=
  ∀ (s : State) (seq slot channel event : Nat), s.inHand (.availAbort seq slot channel event) →
    (31 < channel → exec (.availAbort seq slot channel event) s = .next (s.taken.respond seq 6 .refusedRange 0 slot)) ∧
    ∀ c : Fin 32, channel = c →
      ((s.chan c).state ≠ .insert →
        exec (.availAbort seq slot channel event) s = .next (s.taken.respond seq 6 .refusedState 1 slot)) ∧
      ∀ (av : CurrentAvail) (n : Fin 64) (i : Nat), (s.chan c).state = .insert → (s.chan c).avail = some av →
        (s.chan c).source = .clip n i →
        (av.event ≠ event → exec (.availAbort seq slot channel event) s = .next (s.taken.respond seq 6 .refusedState 2 slot)) ∧
        (av.event = event →
          let ended := (s.chan c).outPts.getD 0
          let logged := (s.taken.record ⟨.clipEnd, c, 2, n, i, (s.clip n).cells⟩).record
            ⟨.availEnd, c, 6, event, ended.toNat, if ended = 0 then 0 else (ended - av.splice).toNat⟩
          exec (.availAbort seq slot channel event) s = .next (({ logged with
            clips := s.clips.set n { s.clip n with plays := (s.clip n).plays - 1 }
            channels := s.channels.set c { s.chan c with
              avail := none
              clipAnchor := none
              recent := joinRecent 4 (s.chan c).recent event
              state := .returnWait
              source := .none
              nullCount := 0
              inHand := (s.chan c).inHand.map fun r => { r with orphaned := true } } } : State).respond seq 6 .done 0 slot))

/-- R121 to R123: the tests of WINDOW_ADD in their order. An accepted window is SCHEDULED, and stands in its channel's list before
the first window whose start is after its own. -/
def Obligations.WindowAddListsTheWindow : Prop :=
  ∀ (s : State) (seq slot : Nat) (f : WindowAddFields), s.windowsListed → s.inHand (.windowAdd seq slot f) →
    let refused (r : DirectiveResult) (detail : Nat) :=
      exec (.windowAdd seq slot f) s = .next (s.taken.respond seq 7 r detail slot)
    (47 < f.window ∨ 31 < f.channel ∨ 3 < f.feed ∨ 2 ^ 33 ≤ f.start ∨ 2 ^ 33 ≤ f.stop → refused .refusedRange 0) ∧
    ∀ (id : Fin 48) (c : Fin 32) (feed : Fin 4) (start stop : Pts), f.window = id → f.channel = c → f.feed = feed →
      f.start = start.toNat → f.stop = stop.toNat →
      (isAfter stop start = false → refused .refusedRange 0) ∧
      (isAfter stop start = true →
        ((∀ k : Fin 48, s.window k ≠ none) → refused .refusedFull 0) ∧
        ((∃ k : Fin 48, s.window k = none) →
          (s.window id ≠ none → refused .refusedState 1) ∧
          (s.window id = none →
            ((s.chan c).state = .off → refused .refusedState 2) ∧
            ((s.chan c).state ≠ .off →
              let clash := ∃ (k : Fin 48) (w : Window), s.window k = some w ∧ w.channel = c ∧ isAfter stop w.start = true ∧
                isAfter w.stop start = true
              (clash → refused .refusedState 3) ∧
              (¬ clash → ∃ front back, (s.chan c).windows = front ++ back ∧
                (∀ k ∈ front, ∀ w, s.window k = some w → isAfter w.start start = false) ∧
                (∀ k, back.head? = some k → ∀ w, s.window k = some w → isAfter w.start start = true) ∧
                exec (.windowAdd seq slot f) s = .next (({ s.taken with
                  windows := s.windows.set id (some ⟨c, feed, start, stop, .scheduled⟩)
                  channels := s.channels.set c { s.chan c with windows := front ++ id :: back } } : State).respond seq 7 .done 0
                    slot))))))

/-- R132, R134: WINDOW_DROP removes the window with its one WINDOW_END. The channel stays as it is but for its list and a current
window dropped; dropping the ACTIVE window leaves it in RETURN_WAIT with its read in hand orphaned. -/
def Obligations.WindowDropRemovesTheWindow : Prop :=
  ∀ (s : State) (seq slot window : Nat), s.inHand (.windowDrop seq slot window) →
    (47 < window → exec (.windowDrop seq slot window) s = .next (s.taken.respond seq 8 .refusedRange 0 slot)) ∧
    ∀ id : Fin 48, window = id →
      (s.window id = none → exec (.windowDrop seq slot window) s = .next (s.taken.respond seq 8 .refusedState 1 slot)) ∧
      ∀ w, s.window id = some w →
        let ch := s.chan w.channel
        let kept : Channel := { ch with
          windows := ch.windows.filter fun k => k ≠ id
          window := if ch.window = some id then none else ch.window }
        let logged := s.taken.record ⟨.windowEnd, w.channel, 3, id, (ch.netPts.getD 0).toNat, w.stop.toNat⟩
        (w.state ≠ .active → exec (.windowDrop seq slot window) s = .next (({ logged with
          windows := s.windows.set id none
          channels := s.channels.set w.channel kept } : State).respond seq 8 .done 0 slot)) ∧
        (w.state = .active → exec (.windowDrop seq slot window) s = .next (({ logged with
          windows := s.windows.set id none
          channels := s.channels.set w.channel { kept with
            state := .returnWait
            source := .none
            nullCount := 0
            inHand := ch.inHand.map fun r => { r with orphaned := true } } } : State).respond seq 8 .done 0 slot))

/-! ## Alerts -/

/-- R155 to R157, R164, R165: an ALERT_SEND out of range is refused; a copy of an alert that is current, queued or recent is counted
and refused; behind an ACTIVE alert of equal or higher level the new context joins a queue of fewer than four, or is dropped at its
arrival from a full queue that holds nothing lower; a full queue that holds a lower one drops the last of its lowest for it. That a
refused directive so counts a duplicate (R155) and makes the ALERT_END of a context dropped (R157, R164), although R165 says that it
changes nothing and makes no record, is the model's reading (log entry 37). -/
def Obligations.AlertSendQueuesOrRefuses : Prop :=
  ∀ (s : State) (seq slot : Nat) (f : AlertSendFields), s.inHand (.alertSend seq slot f) →
    (1 < f.feed ∨ f.groupMask = 0 → exec (.alertSend seq slot f) s = .next (s.taken.respond seq 10 .refusedRange 0 slot)) ∧
    ∀ feed : Fin 2, f.feed = feed → f.groupMask ≠ 0 →
      let known := (∃ x, s.alerts.current = some x ∧ x.alert = f.alert) ∨ (∃ x ∈ s.alerts.queue, x.alert = f.alert) ∨
        f.alert ∈ s.alerts.recent
      let level := max 1 (min 3 f.level)
      let context : AlertContext := ⟨f.alert, level, .host, BitVec.ofNat 8 f.groupMask, feed,
        if f.seconds = 0 then none else some (min f.seconds 7200 * 27000000), .queued, none, none⟩
      (known → exec (.alertSend seq slot f) s = .next (({ s.taken with
        alerts := { s.alerts with duplicates := sat s.alerts.duplicates } } : State).respond seq 10 .refusedState 1 slot)) ∧
      ∀ old, ¬ known → s.alerts.current = some old → old.state = .active → level ≤ old.level →
        (s.alerts.queue.length < 4 → exec (.alertSend seq slot f) s = .next (({ s.taken with
          alerts := { s.alerts with
            queue := s.alerts.queue ++ [context]
            recent := joinRecent 8 s.alerts.recent f.alert } } : State).respond seq 10 .done 2 slot)) ∧
        (s.alerts.queue.length = 4 → (∀ x ∈ s.alerts.queue, level ≤ x.level) →
          exec (.alertSend seq slot f) s = .next
            ((s.taken.record ⟨.alertEnd, 255, 4, f.alert, 0, 0⟩).respond seq 10 .refusedFull 0 slot)) ∧
        ∀ front dropped back, s.alerts.queue.length = 4 → s.alerts.queue = front ++ dropped :: back →
          dropped.level < level → (∀ x ∈ front, dropped.level ≤ x.level) → (∀ x ∈ back, dropped.level < x.level) →
          exec (.alertSend seq slot f) s = .next (({ s.taken.record (dropped.ends 4 s.house) with
            alerts := { s.alerts with
              queue := front ++ back ++ [context]
              recent := joinRecent 8 s.alerts.recent f.alert } } : State).respond seq 10 .done 2 slot)

/-- R156, R158 to R160, R163, R164: an ALERT_SEND that activates. Its target set is the union of its groups as they stand. With no
current context, ALERT_START is handed over, and the enabled channels of the set, and no others, are taken into ALERT on its feed: a
playing avail is abandoned, an ACTIVE window is suspended, and the read in hand is orphaned. A current context that is HELD, or
ACTIVE on a lower level, is superseded: its ALERT_END comes first, the channels that leave its target set leave ALERT, those that
stay change to the new feed where it differs, and the queue stays as it is. -/
def Obligations.AlertSendTakesItsChannels : Prop :=
  ∀ (s : State) (seq slot : Nat) (f : AlertSendFields) (feed : Fin 2) (set : ChannelMask), s.inHand (.alertSend seq slot f) →
    f.feed = feed → f.groupMask ≠ 0 → f.alert ∉ s.alerts.recent → (∀ x ∈ s.alerts.queue, x.alert ≠ f.alert) →
    s.alerts.unites (BitVec.ofNat 8 f.groupMask) set →
    let level := max 1 (min 3 f.level)
    let seconds := min f.seconds 7200
    let activated : State := { s.taken with
      alerts := { s.alerts with
        current := some ⟨f.alert, level, .host, BitVec.ofNat 8 f.groupMask, feed,
          if f.seconds = 0 then none else some (seconds * 27000000), .active, some set, some s.house⟩
        recent := joinRecent 8 s.alerts.recent f.alert } }
    let start : Record := ⟨.alertStart, 255, 2, f.alert, set.toNat, seconds + 65536 * level + 262144 * feed⟩
    (s.alerts.current = none → exec (.alertSend seq slot f) s = .next
      (((activated.record start).alertMoves 0 set feed feed).respond seq 10 .done 1 slot)) ∧
    ∀ old was, s.windowsListed → s.alerts.current = some old → old.target = some was → old.alert ≠ f.alert →
      old.state = .held ∨ (old.state = .active ∧ old.level < level) →
      exec (.alertSend seq slot f) s = .next
        (((activated.recordAll [old.ends 1 s.house, start]).alertMoves was set old.feed feed).respond seq 10
          .done 1 slot)

/-- R131, R160, R162 to R164, R166: ALERT_CLEAR with no current context is refused. With the flush flag, or with nothing queued, the
queued contexts end DROPPED and the current one CLEARED, and each enabled channel of its target set leaves ALERT: to SUBST, where
its suspended window resumes on the feed's latest entry with WINDOW_START, or to RETURN_WAIT. With a queue and no flush the head
becomes current, on the union of its groups as they stand, and the channels are handed over to it. -/
def Obligations.AlertClearReleasesItsChannels : Prop :=
  ∀ (s : State) (seq slot flush : Nat), s.windowsListed → s.inHand (.alertClear seq slot flush) →
    (s.alerts.current = none → exec (.alertClear seq slot flush) s = .next (s.taken.respond seq 11 .refusedState 1 slot)) ∧
    ∀ x set, s.alerts.current = some x → x.target = some set →
      (flush ≠ 0 ∨ s.alerts.queue = [] →
        let ended : State := { s.taken with alerts := { s.alerts with current := none, queue := [] } }
        let records := s.alerts.queue.map (fun y => y.ends 4 s.house) ++ [x.ends 3 s.house]
        exec (.alertClear seq slot flush) s = .next
          (((ended.recordAll records).alertMoves set 0 x.feed x.feed).respond seq 11 .done 0 slot)) ∧
      ∀ head rest now, flush = 0 → s.alerts.queue = head :: rest → s.alerts.unites head.groupMask now →
        let new : AlertContext := { head with state := .active, target := some now, activated := some s.house }
        let handed : State := { s.taken with alerts := { s.alerts with queue := rest, current := some new } }
        exec (.alertClear seq slot flush) s = .next
          (((handed.recordAll [x.ends 3 s.house, new.starts 255 new.reason]).alertMoves set now x.feed
            head.feed).respond seq 11 .done 0 slot)

/-- R160, R162 to R164: at its expiry time the ACTIVE context gives way to the head of the queue, with the channels handed over to
the union of the head's groups as they stand; or becomes HELD under HOLD_LAST with its channels as they are; or ends under
MAY_EMPTY, its channels leaving ALERT. A context without a duration, HELD or absent does not expire. That the house counter is
brought up to the expiry time, and is left alone when it stands later, is the model's choice (log entry 4), and so is the no-effect
of an expiry that is none (log entry 6). -/
def Obligations.AlertsExpire : Prop :=
  ∀ s : State, s.windowsListed →
    ((∀ x, s.alerts.current = some x → x.state ≠ .active ∨ x.duration = none) → exec .alertExpiry s = .next s) ∧
    ∀ x start ticks set, s.alerts.current = some x → x.state = .active → x.activated = some start → x.duration = some ticks →
      x.target = some set →
      let late : State := { s with house := max s.house (start + ticks) }
      (s.alerts.queue = [] → s.alerts.mode = .holdLast → exec .alertExpiry s = .next { late with
        alerts := { s.alerts with current := some { x with state := .held } } }) ∧
      (s.alerts.queue = [] → s.alerts.mode = .mayEmpty →
        exec .alertExpiry s = .next
          ((({ late with alerts := { s.alerts with current := none } } : State).record
            (x.ends 2 late.house)).alertMoves set 0 x.feed x.feed)) ∧
      ∀ head rest now, s.alerts.queue = head :: rest → s.alerts.unites head.groupMask now →
        let new : AlertContext := { head with state := .active, target := some now, activated := some late.house }
        exec .alertExpiry s = .next
          ((({ late with alerts := { s.alerts with queue := rest, current := some new } } : State).recordAll
            [x.ends 2 late.house, new.starts 255 new.reason]).alertMoves set now x.feed head.feed)

/-- R167 and R168, whole but for their effect on what later events read: ALERT_MODE sets the mode while no alert is current, and
GROUP_EDIT replaces, adds to or takes from one group; neither touches anything else. -/
def Obligations.ModeAndGroupsAreEdited : Prop :=
  ∀ (s : State) (seq slot : Nat),
    (∀ mode, s.inHand (.alertMode seq slot mode) →
      (1 < mode → exec (.alertMode seq slot mode) s = .next (s.taken.respond seq 12 .refusedRange 0 slot)) ∧
      (mode ≤ 1 → s.alerts.current ≠ none →
        exec (.alertMode seq slot mode) s = .next (s.taken.respond seq 12 .refusedState 1 slot)) ∧
      (mode ≤ 1 → s.alerts.current = none → exec (.alertMode seq slot mode) s = .next (({ s.taken with
        alerts := { s.alerts with mode := if mode = 1 then .holdLast else .mayEmpty } } : State).respond seq 12 .done 0 slot))) ∧
    ∀ group mode mask, s.inHand (.groupEdit seq slot group mode mask) →
      (7 < group ∨ 2 < mode →
        exec (.groupEdit seq slot group mode mask) s = .next (s.taken.respond seq 9 .refusedRange 0 slot)) ∧
      ∀ g : Fin 8, group = g → mode ≤ 2 →
        ∃ edited : ChannelMask,
          exec (.groupEdit seq slot group mode mask) s = .next (({ s.taken with
            alerts := { s.alerts with groups := s.alerts.groups.set g edited } } : State).respond seq 9 .done 0 slot) ∧
          ∀ c : Fin 32, edited.getLsbD c =
            (match mode with
              | 0 => mask.testBit c
              | 1 => s.alerts.groups[g].getLsbD c || mask.testBit c
              | _ => s.alerts.groups[g].getLsbD c && !mask.testBit c)

/-! ## As-run log -/

/-- R172 to R174, R176 to R180: what becomes of a record handed to the log writer. While the part is transparent none is taken; a
log that is not OPEN withholds it; a record that does not fit closes the open batch, whose mark is asked for at once when its record
writes have all completed, and makes the log FULL; one that fits is written at the next offset into the open batch, which it opens
when there is none and closes as its sixteenth, with the fields of section 10.2. That the house time in it is the counter's low 64
bits is the model's choice (log entry 19). -/
def Obligations.RecordsAreWrittenOrWithheld : Prop :=
  ∀ (s : State) (r : Record),
    let l := s.log
    let withheld := min (l.withheld + 1) 65535
    (s.boot ≠ .running → s.record r = s) ∧
    (s.boot = .running → l.state ≠ .open → s.record r = { s with log := { l with withheld := withheld } }) ∧
    (s.boot = .running → l.state = .open → l.floor < l.fo + 48 → l.batch = none →
      s.record r = { s with log := { l with withheld := withheld, state := .full } }) ∧
    (∀ b, s.boot = .running → l.state = .open → l.floor < l.fo + 48 → l.batch = some b →
      ∃ mark, isMark mark b.first b.number b.firstSeq b.count b.check ∧ s.record r = { s with
        log := { l with
          withheld := withheld
          state := .full
          floor := l.floor - 16
          batch := none
          closing := l.closing ++
            [⟨b.first, b.number, b.firstSeq, b.count, b.check, l.floor - 16, b.inFlight, decide (b.inFlight = 0)⟩] }
        bus := if b.inFlight = 0 then s.bus.write (l.base + (l.floor - 16)) mark (.logMark l.run b.first) else s.bus }) ∧
    ∀ b, s.boot = .running → l.state = .open → l.fo + 48 ≤ l.floor →
      (l.batch = some b ∨ (l.batch = none ∧ b = ⟨l.fo / 32, l.batchNumber, l.sequence, s.house, 0, 0, 0⟩)) →
      ∃ bytes : List Byte, isLogRecord bytes r s.house l.sequence b.number b.count ∧
        let joined : OpenBatch :=
          { b with count := b.count + 1, check := b.check ^^^ xorWords bytes, inFlight := b.inFlight + 1 }
        let written : State := { s with
          log := { l with
            fo := l.fo + 32
            sequence := (l.sequence + 1) % 2 ^ 32
            batchNumber := if l.batch = none then (l.batchNumber + 1) % 65536 else l.batchNumber
            batch := some joined }
          bus := { s.bus with
            txns := s.bus.txns ++ [⟨s.bus.next, s.bus.next, 2, true, l.base + l.fo, 32, bytes, List.replicate 32 true,
              .logRecord l.run b.first, false⟩]
            next := s.bus.next + 1 } }
        (b.count ≠ 15 → s.record r = written) ∧
        (b.count = 15 → s.record r = { written with
          log := { written.log with
            floor := l.floor - 16
            batch := none
            closing := l.closing ++
              [⟨b.first, b.number, b.firstSeq, 16, joined.check, l.floor - 16, joined.inFlight, false⟩] } })

/-- R178, R179: the open batch's timer. With no batch open nothing happens; otherwise the batch closes, with its mark's place at the
new floor, and its mark is asked for when all its record writes have completed. That the house counter is brought up to the moment
of the expiry is the model's choice (log entry 4). -/
def Obligations.BatchTimerClosesTheBatch : Prop :=
  ∀ s : State,
    (s.log.batch = none → exec .batchTimerExpiry s = .next s) ∧
    ∀ b, s.log.batch = some b →
      ∃ mark, isMark mark b.first b.number b.firstSeq b.count b.check ∧
        exec .batchTimerExpiry s = .next { s with
          house := max s.house (b.opened + 27000000)
          log := { s.log with
            floor := s.log.floor - 16
            batch := none
            closing := s.log.closing ++
              [⟨b.first, b.number, b.firstSeq, b.count, b.check, s.log.floor - 16, b.inFlight, decide (b.inFlight = 0)⟩] }
          bus := if b.inFlight = 0 then s.bus.write (s.log.base + (s.log.floor - 16)) mark (.logMark s.log.run b.first) else s.bus }

/-- R179, R181, R182: the answer to a record or mark write of the log. One of an earlier run, or of a batch abandoned before,
changes nothing. A record write of the open batch or of a closed one is counted off when it completes OK, and the last of a closed
batch asks for the batch's mark; a mark answered OK takes its batch out of the list. An ERROR makes the log STOPPED: a record is
withheld, and the open batch, every closed batch whose mark is not yet asked for and the batch concerned are abandoned; in a STOPPED
log an ERROR on a record has no effect, and one on a mark abandons its batch. The batches that leave the list are struck from every
LOG_CLOSE that waits for them, and those that wait for nothing more are answered DONE, or FAILED when a batch of theirs was
abandoned. That record writes not yet granted at a stop stay asked for is the model's reading (log entry 22), and that several
LOG_CLOSE directives which one answer frees are answered in the order in which they were taken is the model's choice (log entry
34). -/
def Obligations.LogWritesAreAnswered : Prop :=
  ∀ (s : State) (x : Txn) (run first : Nat) (a : Answer), s.bus.issuedTxn x.id = some x →
    let left : State := { s with bus := { s.bus with txns := s.bus.txns.filter fun y => y.id ≠ x.id } }
    let gone := (s.log.closing.filter fun b => b.requested = false ∨ b.first = first).map ClosedBatch.first
    let stopped (withheld : Nat) : State := State.closesAnswered { left with
      log := { s.log with
        withheld := withheld
        batch := none
        closing := s.log.closing.filter fun b => b.requested = true ∧ b.first ≠ first
        state := .stopped } } true gone
    (x.owner = .logRecord run first →
      (run ≠ s.log.run → exec (.logRecordWriteComplete x.id a) s = .next left) ∧
      (run = s.log.run →
        (∀ data front b back, a = .ok data → s.log.closing = front ++ b :: back → (∀ y ∈ front ++ back, y.first ≠ first) →
          b.first = first → b.requested = false → b.inFlight = 1 → (∀ o, s.log.batch = some o → o.first ≠ first) →
          exec (.logRecordWriteComplete x.id a) s = .next { left with
            log := { s.log with closing := front ++ { b with inFlight := 0, requested := true } :: back }
            bus := left.bus.write (s.log.base + b.mark) b.markBytes (.logMark run first) }) ∧
        (∀ data front b back, a = .ok data → s.log.closing = front ++ b :: back → (∀ y ∈ front ++ back, y.first ≠ first) →
          b.first = first → b.requested = false → 1 < b.inFlight → (∀ o, s.log.batch = some o → o.first ≠ first) →
          exec (.logRecordWriteComplete x.id a) s = .next { left with
            log := { s.log with closing := front ++ { b with inFlight := b.inFlight - 1 } :: back } }) ∧
        (∀ data, a = .ok data → (∀ y ∈ s.log.closing, y.first ≠ first) → (∀ o, s.log.batch = some o → o.first ≠ first) →
          exec (.logRecordWriteComplete x.id a) s = .next left) ∧
        (∀ data o, a = .ok data → s.log.batch = some o → o.first = first → (∀ y ∈ s.log.closing, y.first ≠ first) →
          exec (.logRecordWriteComplete x.id a) s = .next { left with
            log := { s.log with batch := some { o with inFlight := o.inFlight - 1 } } }) ∧
        (a = .error → s.log.state = .stopped → exec (.logRecordWriteComplete x.id a) s = .next left) ∧
        (a = .error → s.log.state ≠ .stopped →
          exec (.logRecordWriteComplete x.id a) s = .next (stopped (min (s.log.withheld + 1) 65535))))) ∧
    (x.owner = .logMark run first →
      (run ≠ s.log.run ∨ (∀ b ∈ s.log.closing, b.first ≠ first) → exec (.markWriteComplete x.id a) s = .next left) ∧
      (run = s.log.run → (∃ b ∈ s.log.closing, b.first = first) →
        let rest : State := { left with log := { s.log with closing := s.log.closing.filter fun b => b.first ≠ first } }
        (∀ data, a = .ok data → exec (.markWriteComplete x.id a) s = .next (rest.closesAnswered false [first])) ∧
        (a = .error → s.log.state = .stopped →
          exec (.markWriteComplete x.id a) s = .next (rest.closesAnswered true [first])) ∧
        (a = .error → s.log.state ≠ .stopped →
          exec (.markWriteComplete x.id a) s = .next (stopped s.log.withheld))))

/-- R178, R179, R182: LOG_CLOSE closes the open batch, whose mark is asked for at once when its record writes have all completed,
and then waits for every batch of the closing list; with no batch open or closed it is answered DONE at once. -/
def Obligations.LogCloseWaitsForItsMarks : Prop :=
  ∀ (s : State) (seq slot : Nat), s.inHand (.logClose seq slot) →
    (s.log.batch = none → s.log.closing = [] →
      exec (.logClose seq slot) s = .next (s.taken.respond seq 13 .done 0 slot)) ∧
    (s.log.batch = none → s.log.closing ≠ [] → exec (.logClose seq slot) s = .next { s.taken with
      log := { s.log with waits := s.log.waits ++ [⟨⟨seq, slot⟩, s.log.closing.map ClosedBatch.first, false⟩] } }) ∧
    ∀ b, s.log.batch = some b →
      ∃ mark, isMark mark b.first b.number b.firstSeq b.count b.check ∧ exec (.logClose seq slot) s = .next { s.taken with
        log := { s.log with
          floor := s.log.floor - 16
          batch := none
          closing := s.log.closing ++
            [⟨b.first, b.number, b.firstSeq, b.count, b.check, s.log.floor - 16, b.inFlight, decide (b.inFlight = 0)⟩]
          waits := s.log.waits ++ [⟨⟨seq, slot⟩, s.log.closing.map ClosedBatch.first ++ [b.first], false⟩] }
        bus := if b.inFlight = 0 then s.bus.write (s.log.base + (s.log.floor - 16)) mark (.logMark s.log.run b.first) else s.bus }

/-- R183: LOG_RESTART drops every batch, answers every waiting LOG_CLOSE CANCELLED, begins a new run at offset 0, writes
LOG_RESTARTED as its first record, with the state, the withheld count and the sequence that the old run left, and is answered DONE.
The old run's writes stay among the transactions. That the LOG_CLOSE directives are answered in the order in which they were taken
is the model's choice (log entry 34), that its record writes not yet granted stay asked for is its reading (log entry 22), and that
the house time in LOG_RESTARTED is the counter's low 64 bits its choice (log entry 19). -/
def Obligations.LogRestartBeginsANewRun : Prop :=
  ∀ (s : State) (seq slot : Nat), s.inHand (.logRestart seq slot) → s.boot = .running → 4096 ≤ s.log.size →
    let cancelled := s.log.waits.foldl (fun u w => u.respond w.ticket.seq 13 .cancelled 0 w.ticket.slot) s.taken
    ∃ (bytes : List Byte) (code : Nat),
      (s.log.state = .open ∧ code = 1 ∨ s.log.state = .full ∧ code = 2 ∨ s.log.state = .stopped ∧ code = 3) ∧
      isLogRecord bytes ⟨.logRestarted, 255, code, 0, s.log.withheld, s.log.sequence⟩ s.house 0 0 0 ∧
      exec (.logRestart seq slot) s = .next (({ cancelled with
        log := { s.log with
          fo := 32
          floor := s.log.size
          state := .open
          batch := some ⟨0, 0, 0, s.house, 1, xorWords bytes, 1⟩
          closing := []
          batchNumber := 1
          sequence := 1
          withheld := 0
          run := s.log.run + 1
          waits := [] }
        bus := { cancelled.bus with
          txns := cancelled.bus.txns ++ [⟨cancelled.bus.next, cancelled.bus.next, 2, true, s.log.base, 32, bytes,
            List.replicate 32 true, .logRecord (s.log.run + 1) 0, false⟩]
          next := cancelled.bus.next + 1 } } : State).respond seq 14 .done 0 slot)

/-! ## Status -/

/-- R190, R191: a STATUS that names no scope, or whose snapshot does not lie in the status area, is refused; any other is written
over its whole extent in 128-byte writes of class 2 in address order, with the counts of its scope cleared as it is taken. The bytes
are the words of R191 (`State.snapshotWords`), the items of the scope in the order of R190, each word least significant byte first,
and words of 0 to the end of the extent. The model's choices in this are the places that log entry 16 names, among them the order of
the log figures, the bytes of the alert message buffer that no message has filled, which are free values (log entry 17), and the cut
of an unbounded count to its words (log entry 19). -/
def Obligations.StatusWritesASnapshot : Prop :=
  ∀ (s : State) (seq slot scope number dest : Nat) (m : RegionMap), s.inHand (.status seq slot scope number dest) →
    s.map = some m →
    (2 < scope ∨ (scope = 1 ∧ 31 < number) ∨ (scope = 2 ∧ 63 < number) →
      exec (.status seq slot scope number dest) s = .next (s.taken.respond seq 15 .refusedRange 0 slot)) ∧
    ∀ (what : Scope) (extent : Nat),
      ((what = .device ∧ scope = 0 ∧ extent = 1024) ∨
        (∃ c : Fin 32, what = .channel c ∧ scope = 1 ∧ number = c ∧ extent = 3072) ∨
        (∃ n : Fin 64, what = .clip n ∧ scope = 2 ∧ number = n ∧ extent = 256)) →
      (dest % 64 ≠ 0 ∨ dest < m.statusArea.base ∨ m.statusArea.base + m.statusArea.size < dest + extent →
        exec (.status seq slot scope number dest) s = .next (s.taken.respond seq 15 .refusedRange 0 slot)) ∧
      (dest % 64 = 0 → m.statusArea.base ≤ dest → dest + extent ≤ m.statusArea.base + m.statusArea.size →
        ∃ t, exec (.status seq slot scope number dest) s = .next t ∧
          t.bus = { s.bus with
            txns := s.bus.txns ++ (List.range (extent / 128)).map fun i =>
              ⟨s.bus.next + i, s.bus.next + i, 2, true, dest + 128 * i, 128,
                ((snapshotBytes (s.snapshotWords what) (extent / 4)).drop (128 * i)).take 128,
                List.replicate 128 true, .snapshot s.bus.next, false⟩
            next := s.bus.next + extent / 128 } ∧
          (what = .device → t = { s with
            bus := t.bus
            refusedWrites := 0
            dir := { s.dir with
              dispatched := none
              ignoredTails := 0
              ignoredHeads := 0
              fetchErrors := 0
              writeErrors := 0
              snapshots := s.dir.snapshots ++ [⟨s.bus.next, ⟨seq, slot⟩, 8, false⟩] }
            feeds := s.feeds.map fun f => { f with malformed := 0, breaks := 0 }
            receiver := { s.receiver with counts := ReceiverCounts.zero }
            alerts := { s.alerts with duplicates := 0 } }) ∧
          (∀ c, what = .channel c → t = { s with
            bus := t.bus
            dir := { s.dir with
              dispatched := none
              snapshots := s.dir.snapshots ++ [⟨s.bus.next, ⟨seq, slot⟩, 24, false⟩] }
            channels := s.channels.set c { s.chan c with counts := ChannelCounts.zero, malformedIngest := 0 } }) ∧
          (∀ n, what = .clip n → t = { s with
            bus := t.bus
            dir := { s.dir with
              dispatched := none
              snapshots := s.dir.snapshots ++ [⟨s.bus.next, ⟨seq, slot⟩, 2, false⟩] } }))

/-- R190: a snapshot write that is not the last of its STATUS is counted off; the last one answers it, DONE when every write was OK
and FAILED with WRITE_ERROR when any was answered ERROR. -/
def Obligations.StatusIsAnsweredAtItsLastWrite : Prop :=
  ∀ (s : State) (x : Txn) (a : Answer) (front back : List SnapshotJob) (j : SnapshotJob), s.bus.issuedTxn x.id = some x →
    x.owner = .snapshot j.job → s.dir.snapshots = front ++ j :: back →
    (∀ k ∈ front ++ back, k.job ≠ j.job ∧ 0 < k.left) →
    let left : State := { s with bus := { s.bus with txns := s.bus.txns.filter fun y => y.id ≠ x.id } }
    let failed := j.failed || decide (a = .error)
    (1 < j.left → exec (.statusWriteComplete x.id a) s = .next { left with
      dir := { s.dir with snapshots := front ++ { j with left := j.left - 1, failed := failed } :: back } }) ∧
    (j.left = 1 → exec (.statusWriteComplete x.id a) s = .next
      (State.respond { left with dir := { s.dir with snapshots := front ++ back } } j.ticket.seq 15
        (if failed then .failed else .done) (if failed then 1 else 0) j.ticket.slot))

/-! ## Alert line -/

/-- R140: an attention met in WAIT_ATTENTION or STANDBY empties the buffer and forgets the measured period. Its 16 nominal periods
are counted from the latest falling edge, or from the moment the receiver began reading when the line was low already. The rising
edge that ends it starts the wait for the rate mark. The house counter is brought up to each of these moments (log entry 4), and in
any other state, or while the part does not run, neither command is an event (log entry 6), also in BODY, where an attention can be
met after all (log entry 36): all three are the model's choices. -/
def Obligations.AttentionOpensAMessage : Prop :=
  ∀ (s : State) (fall rise : Nat),
    (∀ began low, s.boot = .running → s.receiver.state = .waitAttention ∨ s.receiver.state = .standby →
      s.receiver.readingFrom = some began → (began ≤ fall ∧ low = fall) ∨ (fall < began ∧ low = began) →
      exec (.attention fall) s = .next { s with
        house := max s.house (low + 16 * s.receiver.nominal)
        receiver := { s.receiver with state := .attention, period := none, idleFrom := none, buffer := [] } }) ∧
    (s.boot ≠ .running ∨ (s.receiver.state ≠ .waitAttention ∧ s.receiver.state ≠ .standby) →
      exec (.attention fall) s = .next s) ∧
    (s.boot = .running → s.receiver.state = .attention → exec (.attentionEnd rise) s = .next { s with
      house := max s.house rise
      receiver := { s.receiver with state := .rateMark, idleFrom := some rise } }) ∧
    (s.boot ≠ .running ∨ s.receiver.state ≠ .attention → exec (.attentionEnd rise) s = .next s)

/-- R138, R139, R141 to R143, R150: the byte in the place of the rate mark, whose start edge came within the idle limit and passed
its test. The edges recorded are those after the start bit's third sample (log entry 35). The time from the start edge to the fourth
falling edge gives the measured period `m`; the message is abandoned as RATE or FRAMING at the moment that shows it, or goes on with
`m`, and disagreement among the samples of the start bit, bit 8 or the stop bit is counted. That a command carries the wave of its
byte (log entry 13), and that the house counter is brought up to each of these moments (log entry 4), are the model's choices. -/
def Obligations.RateMarkIsMeasured : Prop :=
  ∀ (s : State) (w : Wave) (idle : Nat), s.boot = .running → s.receiver.state = .rateMark →
    s.receiver.idleFrom = some idle → idle < w.fall → w.fall ≤ idle + 20 * s.receiver.nominal →
    let n := s.receiver.nominal
    let recorded := w.toggles.zipIdx.filter fun e => w.fall + 9 * n / 16 < e.1
    let rises (e : Nat × Nat) := e.2 % 2 = 0
    let fourth := (recorded.filter fun e => ¬ rises e)[2]?
    let near (m k : Nat) (e : Nat × Nat) :=
      (rises e ↔ k % 2 = 0) ∧ ((e.1 : Int) - (w.fall + (k + 2) * m : Nat)).natAbs ≤ m / 2
    let abandoned (house : Nat) (counts : ReceiverCounts) : State := { s with
      house := max s.house house
      receiver := { s.receiver with state := .standby, period := none, idleFrom := none, counts := counts } }
    let rate := { s.receiver.counts with rate := min (s.receiver.counts.rate + 1) 65535 }
    ((sampleBit w n 0).value = true →
      exec (.rateMark w) s = .next { s with house := max s.house (w.fall + 9 * n / 16) }) ∧
    ((sampleBit w n 0).value = false →
      ((∀ e, fourth = some e → w.fall + 8 * n < e.1) →
        exec (.rateMark w) s = .next (abandoned (w.fall + 8 * n) rate) ∧
        exec (.rateTimeout w) s = .next (abandoned (w.fall + 8 * n) rate)) ∧
      ∀ (e : Nat × Nat) (m : Nat), fourth = some e → e.1 ≤ w.fall + 8 * n → m = (e.1 - w.fall + 3) / 7 →
        exec (.rateTimeout w) s = .next s ∧
        ((n : Int) < ((m : Int) - n).natAbs * 8 ∨ (∃ k < 5, ∀ x, recorded[k]? = some x → ¬ near m k x) →
          exec (.rateMark w) s = .next (abandoned e.1 rate)) ∧
        (((m : Int) - n).natAbs * 8 ≤ n → (∀ k < 5, ∃ x, recorded[k]? = some x ∧ near m k x) →
          ((sampleBit w m 8).value = false →
            exec (.rateMark w) s = .next (abandoned (w.fall + 8 * m + 9 * m / 16) rate)) ∧
          ((sampleBit w m 8).value = true → (sampleBit w m 9).value = false →
            exec (.rateMark w) s = .next (abandoned (w.fall + 9 * m + 9 * m / 16)
              { s.receiver.counts with framing := min (s.receiver.counts.framing + 1) 65535 })) ∧
          ((sampleBit w m 8).value = true → (sampleBit w m 9).value = true →
            exec (.rateMark w) s = .next { s with
              house := max s.house (w.fall + 9 * m + 9 * m / 16)
              receiver := { s.receiver with
                state := .body
                period := some m
                buffer := [0xAA#8]
                idleFrom := some (w.fall + 9 * m + 9 * m / 16)
                counts := { s.receiver.counts with
                  noise := if (sampleBit w n 0).noisy || (sampleBit w m 8).noisy || (sampleBit w m 9).noisy then
                      min (s.receiver.counts.noise + 1) 65535
                    else s.receiver.counts.noise } } })))

/-- R141, R144, R150, R152: when no start edge comes within 20 periods, nominal for the rate mark and measured in the body, the
message is abandoned as TRUNCATED at the tick after the limit; a start edge that comes later meets the abandoned message (log entry
15). A receiver that waits for no byte has no limit, and the expiry of none is no event (log entry 6). That the house counter is
brought up to the moment of the abandonment is the model's choice (log entry 4). -/
def Obligations.IdleLimitTruncates : Prop :=
  ∀ s : State,
    (s.boot ≠ .running ∨ s.receiver.idleFrom = none ∨ (s.receiver.state ≠ .rateMark ∧ s.receiver.state ≠ .body) →
      exec .idleLimitExpiry s = .next s) ∧
    ∀ (idle p : Nat) (w : Wave), s.boot = .running → s.receiver.idleFrom = some idle →
      ((s.receiver.state = .rateMark ∧ p = s.receiver.nominal) ∨ (s.receiver.state = .body ∧ s.receiver.period = some p)) →
      let truncated : State := { s with
        house := max s.house (idle + 20 * p + 1)
        receiver := { s.receiver with
          state := .standby
          period := none
          idleFrom := none
          counts := { s.receiver.counts with truncated := min (s.receiver.counts.truncated + 1) 65535 } } }
      exec .idleLimitExpiry s = .next truncated ∧
      (idle + 20 * p < w.fall →
        (s.receiver.state = .rateMark → exec (.rateMark w) s = .next truncated) ∧
        (s.receiver.state = .body → exec (.bodyByte w) s = .next truncated))

/-- R138, R139, R144 to R149: a byte of the body, whose start edge came within the idle limit. A false start is ignored, and the
limit runs on. A low stop bit abandons the message; any other byte joins the buffer. Byte 2 tells whether the zone is ours, and byte
11 ends the message: a wrong check or field abandons it with its record, and a valid one is delivered as an arrival. That the house
counter is brought up to each of these moments (log entry 4), that a command carries the wave of its byte (log entry 13), and that
the measured period stays after a message that is not ours (log entry 14), are the model's choices. -/
def Obligations.BodyBytesMakeAMessage : Prop :=
  ∀ (s : State) (w : Wave) (idle p : Nat), s.boot = .running → s.receiver.state = .body →
    s.receiver.period = some p → s.receiver.idleFrom = some idle → idle < w.fall → w.fall ≤ idle + 20 * p →
    ((sampleBit w p 0).value = true → exec (.bodyByte w) s = .next { s with house := max s.house (w.fall + 9 * p / 16) }) ∧
    ((sampleBit w p 0).value = false → (sampleBit w p 9).value = false → exec (.bodyByte w) s = .next { s with
      house := max s.house (w.fall + 9 * p + 9 * p / 16)
      receiver := { s.receiver with
        state := .standby
        period := none
        idleFrom := none
        counts := { s.receiver.counts with framing := min (s.receiver.counts.framing + 1) 65535 } } }) ∧
    ((sampleBit w p 0).value = false → (sampleBit w p 9).value = true →
      ∃ (byte : Byte) (noise : Nat),
        (∀ k < 8, byte.getLsbD k = (sampleBit w p (k + 1)).value) ∧
        ((∃ k < 10, (sampleBit w p k).noisy = true) → noise = min (s.receiver.counts.noise + 1) 65535) ∧
        ((∀ k < 10, (sampleBit w p k).noisy = false) → noise = s.receiver.counts.noise) ∧
        let buffer := s.receiver.buffer ++ [byte]
        let counts := { s.receiver.counts with noise := noise }
        let placed : State := { s with
          house := max s.house (w.fall + 9 * p + 9 * p / 16)
          receiver := { s.receiver with
            buffer := buffer
            idleFrom := some (w.fall + 9 * p + 9 * p / 16)
            counts := counts } }
        let ended (st : ReceiverState) (c : ReceiverCounts) : State := { placed with
          receiver := { placed.receiver with state := st, period := none, idleFrom := none, counts := c } }
        let alert := beField buffer 4 2
        (buffer.length ≠ 3 → buffer.length ≠ 12 → exec (.bodyByte w) s = .next placed) ∧
        (buffer.length = 3 → beField buffer 1 2 = 0xFFFF ∨ beField buffer 1 2 ∈ s.receiver.zones →
          exec (.bodyByte w) s = .next placed) ∧
        (buffer.length = 3 → beField buffer 1 2 ≠ 0xFFFF → beField buffer 1 2 ∉ s.receiver.zones →
          exec (.bodyByte w) s = .next { placed with
            receiver := { placed.receiver with
              state := .standby
              idleFrom := none
              counts := { counts with notOurs := min (counts.notOurs + 1) 65535 } } }) ∧
        (buffer.length = 12 → (crc16 ((buffer.drop 1).take 9)).toNat ≠ beField buffer 10 2 →
          exec (.bodyByte w) s = .next ((ended .standby { counts with check := min (counts.check + 1) 65535 }).record
            ⟨.alertMessageBad, 255, 4, alert, beField buffer 10 2, (crc16 ((buffer.drop 1).take 9)).toNat⟩)) ∧
        (buffer.length = 12 → (crc16 ((buffer.drop 1).take 9)).toNat = beField buffer 10 2 →
          (1 < beField buffer 7 1 ∨ beField buffer 6 1 = 0 →
            exec (.bodyByte w) s = .next ((ended .standby { counts with field := min (counts.field + 1) 65535 }).record
              ⟨.alertMessageBad, 255, 5, alert, beField buffer 7 1, beField buffer 6 1⟩)) ∧
          ∀ feed : Fin 2, beField buffer 7 1 = feed → beField buffer 6 1 ≠ 0 →
            exec (.bodyByte w) s = .next
              ((ended .waitAttention { counts with delivered := min (counts.delivered + 1) 65535 }).arrive
                ⟨alert, max 1 (min 3 (beField buffer 3 1)), .line, buffer.getD 6 0, feed, min (beField buffer 8 2) 7200⟩).1))

/-! ## Timestamps -/

/-- R24: the forward distance of two timestamps, and the relations that follow from it, row by row of its table. -/
def Obligations.TimestampsCompareByForwardDistance : Prop :=
  ∀ a b : Pts,
    (forward a b : Int) = ((a.toNat : Int) - b.toNat) % 2 ^ 33 ∧
    (forward a b = 0 → atOrAfter a b = true ∧ atOrAfter b a = true ∧ isAfter a b = false ∧ isAfter b a = false) ∧
    (1 ≤ forward a b → forward a b ≤ 2 ^ 32 - 1 →
      isAfter a b = true ∧ atOrAfter a b = true ∧ isAfter b a = false ∧ atOrAfter b a = false) ∧
    (forward a b = 2 ^ 32 → atOrAfter a b = false ∧ atOrAfter b a = false) ∧
    (2 ^ 32 + 1 ≤ forward a b → isAfter b a = true ∧ isAfter a b = false ∧ atOrAfter a b = false)

/-! ## Invariants -/

/-- What the invariants say holds of the machine right after reset. The state right after reset is a boot just begun (log entry 1),
and the figures of the log in it are those the model gives the log before a boot (log entry 2): both are the model's choices. -/
def Obligations.ResetMeetsEveryInvariant : Prop :=
  State.reset.tagsApart ∧ State.reset.log.inPlace ∧ (∀ c, (State.reset.chan c).eventsApart) ∧ State.reset.alerts.inOrder ∧
    State.reset.clipsApart ∧ State.reset.oneVerifies ∧ State.reset.windowsListed ∧ State.reset.keysApart ∧
    State.reset.dir.inRings

/-- R1, R2: every step keeps the tags of transactions and entries apart and the list within its 64 entries. -/
def Obligations.EveryStepKeepsTagsApart : Prop :=
  ∀ s t : State, s.tagsApart → step s = .next t → t.tagsApart

/-- R172, R176 to R178: every step keeps the log's records and marks apart in the region. -/
def Obligations.EveryStepKeepsTheLogInPlace : Prop :=
  ∀ s t : State, s.log.inPlace → step s = .next t → t.log.inPlace

/-- R89, R90, R93, R96, R103: every step keeps each event id of a channel in one place, with at most four events queued. -/
def Obligations.EveryStepKeepsEventsApart : Prop :=
  ∀ s t : State, (∀ c, (s.chan c).eventsApart) → step s = .next t → ∀ c, (t.chan c).eventsApart

/-- R153 to R157, R162, R163: every step keeps the alert contexts in order. -/
def Obligations.EveryStepKeepsAlertsInOrder : Prop :=
  ∀ s t : State, s.alerts.inOrder → step s = .next t → t.alerts.inOrder

/-- R64, R66, R67, R73, R75: every step keeps clips off each other's cells and at most one of them VERIFYING, with the verify queue
waiting only behind it, and at most one verification read outstanding, as there is one while a clip is VERIFYING. That a new pass
waits for the read of one that CLIP_FREE ended is the model's reading (log entry 31). -/
def Obligations.EveryStepKeepsTheClipStoreInOrder : Prop :=
  ∀ s t : State, s.tagsApart → s.oneVerifies → s.clipsApart → step s = .next t → t.oneVerifies ∧ t.clipsApart

/-- R78, R79, R120, R121, R186, R189: every step keeps each channel's window list equal to its window records, the keys of its
bindings apart, and the heads and tails of the two rings on slots 0 to 63. -/
def Obligations.EveryStepKeepsTheTablesInOrder : Prop :=
  ∀ s t : State, s.windowsListed → s.keysApart → s.dir.inRings → step s = .next t →
    t.windowsListed ∧ t.keysApart ∧ t.dir.inRings

end
end

