-- ==== Sys2Proof/Laws/Boot.lean ====
section
/-! SUPPORT. What the boot record's tests decide (R192): each Boolean test of the boot loader, said by the ranges and fields that it
is about. -/

namespace Sys2Proof.Machine

theorem within_iff (lo hi v : Nat) : within lo hi v = true ↔ lo ≤ v ∧ v ≤ hi := by
  simp [within]

/-- Two ranges meet exactly when they share a byte. -/
theorem rangesMeet_iff (x y : Span) : rangesMeet x.base x.size y.base y.size = true ↔ ∃ b, x.has b ∧ y.has b := by
  simp only [rangesMeet, Bool.and_eq_true, decide_eq_true_eq, Span.has]
  constructor
  · intro h
    exact ⟨max x.base y.base, by omega, by omega⟩
  · rintro ⟨b, hx, hy⟩
    omega

/-- The test of R3 that no two ranges share a byte. -/
theorem rangesApart_iff (l : List Span) : rangesApart l = true ↔ spansApart l := by
  induction l with
  | nil => simp [rangesApart, spansApart]
  | cons x xs ih =>
    have h (y : Span) : (!rangesMeet x.base x.size y.base y.size) = true ↔ ∀ b, ¬ (x.has b ∧ y.has b) := by
      rw [Bool.not_eq_true', ← Bool.not_eq_true, rangesMeet_iff]
      exact not_exists
    simp only [rangesApart, Bool.and_eq_true, List.all_eq_true, h, ih, spansApart, List.pairwise_cons]

theorem noRepeat_iff (l : List Nat) : noRepeat l = true ↔ l.Nodup := by
  induction l with
  | nil => simp [noRepeat]
  | cons x xs ih => simp [noRepeat, ih]

/-- A byte lies in a range when it lies in one of two parts of it. -/
theorem Span.has_split (base a b x : Nat) :
    (⟨base, a + b⟩ : Span).has x ↔ (⟨base, a⟩ : Span).has x ∨ (⟨base + a, b⟩ : Span).has x := by
  simp only [Span.has]
  omega

/-- The rings' ranges, channel by channel and feed by feed. -/
theorem RegionMap.rings_spans (m : RegionMap) : m.rings.map (fun r => (⟨r.base, 192 * r.cells⟩ : Span)) =
    ((List.finRange 32).filterMap fun c => m.channelRings[c].map Ring.span) ++
      ((List.finRange 6).map fun f => m.feedRings[f].span) := by
  have e : m.channelRings.toList = (List.finRange 32).map fun c => m.channelRings[c] := by
    apply List.ext_getElem <;> simp
  have f : m.feedRings.toList = (List.finRange 6).map fun c => m.feedRings[c] := by
    apply List.ext_getElem <;> simp
  rw [RegionMap.rings, e, f]
  simp only [List.map_append, List.map_filterMap, List.filterMap_map, List.map_map]
  rfl

/-- A range cut in two is two ranges apart, each apart from what the whole is apart from. -/
theorem spansApart_split (l r : List Span) (base a b : Nat) :
    spansApart (l ++ ⟨base, a + b⟩ :: r) ↔ spansApart (l ++ ⟨base, a⟩ :: ⟨base + a, b⟩ :: r) := by
  have cut : ∀ x, ¬ ((⟨base, a⟩ : Span).has x ∧ (⟨base + a, b⟩ : Span).has x) := by
    simp only [Span.has]
    omega
  simp only [spansApart, List.pairwise_append, List.pairwise_cons, List.forall_mem_cons, Span.has_split base a b, or_and_right,
    and_or_left, not_or, forall_and]
  tauto

/-- The test of R3 on the ranges, said of the table of section 1.2, in which a ring's slots and its watched word are two rows. -/
theorem RegionMap.layoutOk_iff (m : RegionMap) : m.layoutOk = true ↔
    (∀ p ∈ m.extents, p.base + p.size ≤ 2 ^ 40) ∧ spansApart m.extents := by
  simp only [RegionMap.layoutOk, Bool.and_eq_true, List.all_eq_true, decide_eq_true_eq, rangesApart_iff, RegionMap.ranges,
    m.rings_spans, RegionMap.extents]
  generalize ((List.finRange 32).filterMap fun c => m.channelRings[c].map Ring.span) ++
    ((List.finRange 6).map fun f => m.feedRings[f].span) = l
  have d := spansApart_split (l ++ [m.clipArea, m.logRegion])
      [⟨m.responseBase, 1028⟩, ⟨m.responseBase + 1040, 4⟩, m.statusArea] m.directiveBase 4096 4
  have r := spansApart_split (l ++ [m.clipArea, m.logRegion, ⟨m.directiveBase, 4096⟩, ⟨m.directiveBase + 4096, 4⟩])
      [⟨m.responseBase + 1040, 4⟩, m.statusArea] m.responseBase 1024 4
  simp only [List.append_assoc, List.cons_append, List.nil_append, Nat.reduceAdd] at d r
  rw [d, r]
  refine and_congr_left fun _ => ?_
  simp only [List.forall_mem_append, List.forall_mem_cons]
  refine and_congr_right fun _ => ?_
  simp only [List.not_mem_nil, false_implies, implies_true, and_true]
  omega

/-- The test of R33 on a role map. -/
theorem RoleMap.valid_iff (roles : RoleMap) : roles.valid = true ↔ roles.lawful := by
  obtain ⟨⟨l⟩, hl⟩ := roles
  match l, hl with
  | [a, b, c, d, e, f], _ =>
    simp only [RoleMap.valid, RoleMap.pids, RoleMap.lawful, Bool.and_eq_true, noRepeat_iff, List.all_eq_true, decide_eq_true_eq,
      and_assoc]
    refine and_congr ?_ (and_congr ?_ ?_)
    · simp [Role.idx, Option.isSome_iff_ne_none]
    · constructor
      · intro h i pid hp
        refine h pid ?_
        simp only [List.mem_filterMap, id]
        refine ⟨some pid, ?_, rfl⟩
        rw [← hp]
        simp
      · intro h pid hp
        simp only [List.mem_filterMap, id] at hp
        obtain ⟨o, ho, rfl⟩ := hp
        obtain ⟨i, hi, e⟩ := List.getElem_of_mem ho
        exact h ⟨i, by simpa using hi⟩ pid (by simpa using e)
    · rw [List.Nodup, List.pairwise_filterMap, List.pairwise_iff_getElem]
      constructor
      · intro h i j pid hi hj
        by_contra c
        rcases Nat.lt_or_gt_of_ne (fun e => c (Fin.ext e)) with l | l
        · exact h i j (by simp) (by simp) l pid (by simpa using hi) pid (by simpa using hj) rfl
        · exact h j i (by simp) (by simp) l pid (by simpa using hj) pid (by simpa using hi) rfl
      · intro h i j hi hj l p hp q hq e
        subst e
        have := h ⟨i, by simpa using hi⟩ ⟨j, by simpa using hj⟩ p (by simpa using hp) (by simpa using hq)
        simp at this
        omega

theorem leNat_lt (l : List Byte) : leNat l < 256 ^ l.length := by
  induction l with
  | nil => simp [leNat]
  | cons b l ih =>
    simp only [leNat, List.length_cons, Nat.pow_succ]
    have := b.isLt
    omega

/-- A field of `n` bytes is below 256 to the `n`. -/
theorem leField_lt (r : List Byte) (o n : Nat) : leField r o n < 256 ^ n := by
  refine Nat.lt_of_lt_of_le (leNat_lt _) (Nat.pow_le_pow_right (by omega) ?_)
  simp [slice]

end Sys2Proof.Machine
end

