-- ==== Sys2Proof/Laws/Clips.lean ====
section
/-! SUPPORT. What the requests of the verification pass can do (R67): a read is asked for only while none is outstanding. -/

namespace Sys2Proof.Machine

theorem Owner.verifies_iff (o : Owner) : o.verifies = true ↔ ∃ n, o = .verify n := by
  cases o <;> simp [Owner.verifies]

theorem Bus.verifying_iff (b : Bus) : b.verifying = true ↔ ∃ x ∈ b.txns, ∃ n, x.owner = .verify n := by
  simp [Bus.verifying, Owner.verifies_iff]

/-- A request leaves all but the arbiter and the awaited read alone. -/
theorem State.requestVerify_cases (s : State) (n : Fin 64) :
    (s.bus.verifying = true ∧ s.requestVerify n = s) ∨
      (s.bus.verifying = false ∧ s.requestVerify n = { s with
        bus := s.bus.read 4 ((s.clip n).base + 192 * (s.clip n).cursor) 192 (.verify n)
        verifyRead := some s.bus.next }) := by
  unfold State.requestVerify
  split
  · exact .inl ⟨‹_›, rfl⟩
  · exact .inr ⟨Bool.eq_false_iff.2 ‹_›, rfl⟩

/-- After a request one verification read is outstanding, its own or an ended pass's. -/
theorem State.requestVerify_verifying (s : State) (n : Fin 64) : (s.requestVerify n).bus.verifying = true := by
  rcases s.requestVerify_cases n with ⟨h, e⟩ | ⟨-, e⟩ <;> rw [e]
  · exact h
  · exact (Bus.verifying_iff _).2 ⟨_, List.mem_append_right _ (List.mem_singleton.2 rfl), n, rfl⟩

/-- R67: a request keeps the outstanding verification reads at one at most. -/
theorem State.requestVerify_one (s : State) (n : Fin 64) (h : (s.bus.txns.filter fun x => x.owner.verifies).length ≤ 1) :
    ((s.requestVerify n).bus.txns.filter fun x => x.owner.verifies).length ≤ 1 := by
  rcases s.requestVerify_cases n with ⟨-, e⟩ | ⟨hv, e⟩ <;> rw [e]
  · exact h
  · have none_ : (s.bus.txns.filter fun x => x.owner.verifies) = [] := by
      simpa [Bus.verifying, List.filter_eq_nil_iff] using hv
    simp only [Bus.read, Bus.request, List.filter_append, none_, List.nil_append]
    exact List.length_filter_le _ [_]

/-- The pass that waits asks for its read; with no clip VERIFYING nothing happens. -/
theorem State.resumeVerify_cases (s : State) :
    (s.verifying = none ∧ s.resumeVerify = s) ∨ ∃ n, s.verifying = some n ∧ s.resumeVerify = s.requestVerify n := by
  unfold State.resumeVerify
  split
  · exact .inr ⟨_, ‹_›, rfl⟩
  · exact .inl ⟨‹_›, rfl⟩

end Sys2Proof.Machine
end

