-- ==== Sys2Proof/Laws/State.lean ====
section
/-! SUPPORT. One lemma per field of State for each record update, true by unfolding, so that no later proof unfolds one. -/

namespace Sys2Proof.Machine

/-! ## State.mapChan -/

@[simp] theorem State.mapChan_pending (s : State) (c : Fin 32) (f : Channel → Channel) :
    (s.mapChan c f).pending = s.pending := rfl

@[simp] theorem State.mapChan_boot (s : State) (c : Fin 32) (f : Channel → Channel) :
    (s.mapChan c f).boot = s.boot := rfl

@[simp] theorem State.mapChan_faultLine (s : State) (c : Fin 32) (f : Channel → Channel) :
    (s.mapChan c f).faultLine = s.faultLine := rfl

@[simp] theorem State.mapChan_image (s : State) (c : Fin 32) (f : Channel → Channel) :
    (s.mapChan c f).image = s.image := rfl

@[simp] theorem State.mapChan_house (s : State) (c : Fin 32) (f : Channel → Channel) :
    (s.mapChan c f).house = s.house := rfl

@[simp] theorem State.mapChan_map (s : State) (c : Fin 32) (f : Channel → Channel) :
    (s.mapChan c f).map = s.map := rfl

@[simp] theorem State.mapChan_entries (s : State) (c : Fin 32) (f : Channel → Channel) :
    (s.mapChan c f).entries = s.entries := rfl

@[simp] theorem State.mapChan_up (s : State) (c : Fin 32) (f : Channel → Channel) :
    (s.mapChan c f).up = s.up := rfl

@[simp] theorem State.mapChan_refusedWrites (s : State) (c : Fin 32) (f : Channel → Channel) :
    (s.mapChan c f).refusedWrites = s.refusedWrites := rfl

@[simp] theorem State.mapChan_bus (s : State) (c : Fin 32) (f : Channel → Channel) :
    (s.mapChan c f).bus = s.bus := rfl

@[simp] theorem State.mapChan_channels (s : State) (c : Fin 32) (f : Channel → Channel) :
    (s.mapChan c f).channels = s.channels.set c (f s.channels[c]) := rfl

@[simp] theorem State.mapChan_feeds (s : State) (c : Fin 32) (f : Channel → Channel) :
    (s.mapChan c f).feeds = s.feeds := rfl

@[simp] theorem State.mapChan_clips (s : State) (c : Fin 32) (f : Channel → Channel) :
    (s.mapChan c f).clips = s.clips := rfl

@[simp] theorem State.mapChan_verifyQueue (s : State) (c : Fin 32) (f : Channel → Channel) :
    (s.mapChan c f).verifyQueue = s.verifyQueue := rfl

@[simp] theorem State.mapChan_verifyRead (s : State) (c : Fin 32) (f : Channel → Channel) :
    (s.mapChan c f).verifyRead = s.verifyRead := rfl

@[simp] theorem State.mapChan_bindings (s : State) (c : Fin 32) (f : Channel → Channel) :
    (s.mapChan c f).bindings = s.bindings := rfl

@[simp] theorem State.mapChan_windows (s : State) (c : Fin 32) (f : Channel → Channel) :
    (s.mapChan c f).windows = s.windows := rfl

@[simp] theorem State.mapChan_receiver (s : State) (c : Fin 32) (f : Channel → Channel) :
    (s.mapChan c f).receiver = s.receiver := rfl

@[simp] theorem State.mapChan_alerts (s : State) (c : Fin 32) (f : Channel → Channel) :
    (s.mapChan c f).alerts = s.alerts := rfl

@[simp] theorem State.mapChan_log (s : State) (c : Fin 32) (f : Channel → Channel) :
    (s.mapChan c f).log = s.log := rfl

@[simp] theorem State.mapChan_dir (s : State) (c : Fin 32) (f : Channel → Channel) :
    (s.mapChan c f).dir = s.dir := rfl

/-! ## State.mapClip -/

@[simp] theorem State.mapClip_pending (s : State) (n : Fin 64) (f : Clip → Clip) :
    (s.mapClip n f).pending = s.pending := rfl

@[simp] theorem State.mapClip_boot (s : State) (n : Fin 64) (f : Clip → Clip) :
    (s.mapClip n f).boot = s.boot := rfl

@[simp] theorem State.mapClip_faultLine (s : State) (n : Fin 64) (f : Clip → Clip) :
    (s.mapClip n f).faultLine = s.faultLine := rfl

@[simp] theorem State.mapClip_image (s : State) (n : Fin 64) (f : Clip → Clip) :
    (s.mapClip n f).image = s.image := rfl

@[simp] theorem State.mapClip_house (s : State) (n : Fin 64) (f : Clip → Clip) :
    (s.mapClip n f).house = s.house := rfl

@[simp] theorem State.mapClip_map (s : State) (n : Fin 64) (f : Clip → Clip) :
    (s.mapClip n f).map = s.map := rfl

@[simp] theorem State.mapClip_entries (s : State) (n : Fin 64) (f : Clip → Clip) :
    (s.mapClip n f).entries = s.entries := rfl

@[simp] theorem State.mapClip_up (s : State) (n : Fin 64) (f : Clip → Clip) :
    (s.mapClip n f).up = s.up := rfl

@[simp] theorem State.mapClip_refusedWrites (s : State) (n : Fin 64) (f : Clip → Clip) :
    (s.mapClip n f).refusedWrites = s.refusedWrites := rfl

@[simp] theorem State.mapClip_bus (s : State) (n : Fin 64) (f : Clip → Clip) :
    (s.mapClip n f).bus = s.bus := rfl

@[simp] theorem State.mapClip_channels (s : State) (n : Fin 64) (f : Clip → Clip) :
    (s.mapClip n f).channels = s.channels := rfl

@[simp] theorem State.mapClip_feeds (s : State) (n : Fin 64) (f : Clip → Clip) :
    (s.mapClip n f).feeds = s.feeds := rfl

@[simp] theorem State.mapClip_clips (s : State) (n : Fin 64) (f : Clip → Clip) :
    (s.mapClip n f).clips = s.clips.set n (f s.clips[n]) := rfl

@[simp] theorem State.mapClip_verifyQueue (s : State) (n : Fin 64) (f : Clip → Clip) :
    (s.mapClip n f).verifyQueue = s.verifyQueue := rfl

@[simp] theorem State.mapClip_verifyRead (s : State) (n : Fin 64) (f : Clip → Clip) :
    (s.mapClip n f).verifyRead = s.verifyRead := rfl

@[simp] theorem State.mapClip_bindings (s : State) (n : Fin 64) (f : Clip → Clip) :
    (s.mapClip n f).bindings = s.bindings := rfl

@[simp] theorem State.mapClip_windows (s : State) (n : Fin 64) (f : Clip → Clip) :
    (s.mapClip n f).windows = s.windows := rfl

@[simp] theorem State.mapClip_receiver (s : State) (n : Fin 64) (f : Clip → Clip) :
    (s.mapClip n f).receiver = s.receiver := rfl

@[simp] theorem State.mapClip_alerts (s : State) (n : Fin 64) (f : Clip → Clip) :
    (s.mapClip n f).alerts = s.alerts := rfl

@[simp] theorem State.mapClip_log (s : State) (n : Fin 64) (f : Clip → Clip) :
    (s.mapClip n f).log = s.log := rfl

@[simp] theorem State.mapClip_dir (s : State) (n : Fin 64) (f : Clip → Clip) :
    (s.mapClip n f).dir = s.dir := rfl

/-! ## State.mapFeed -/

@[simp] theorem State.mapFeed_pending (s : State) (n : Fin 6) (f : FeedTracker → FeedTracker) :
    (s.mapFeed n f).pending = s.pending := rfl

@[simp] theorem State.mapFeed_boot (s : State) (n : Fin 6) (f : FeedTracker → FeedTracker) :
    (s.mapFeed n f).boot = s.boot := rfl

@[simp] theorem State.mapFeed_faultLine (s : State) (n : Fin 6) (f : FeedTracker → FeedTracker) :
    (s.mapFeed n f).faultLine = s.faultLine := rfl

@[simp] theorem State.mapFeed_image (s : State) (n : Fin 6) (f : FeedTracker → FeedTracker) :
    (s.mapFeed n f).image = s.image := rfl

@[simp] theorem State.mapFeed_house (s : State) (n : Fin 6) (f : FeedTracker → FeedTracker) :
    (s.mapFeed n f).house = s.house := rfl

@[simp] theorem State.mapFeed_map (s : State) (n : Fin 6) (f : FeedTracker → FeedTracker) :
    (s.mapFeed n f).map = s.map := rfl

@[simp] theorem State.mapFeed_entries (s : State) (n : Fin 6) (f : FeedTracker → FeedTracker) :
    (s.mapFeed n f).entries = s.entries := rfl

@[simp] theorem State.mapFeed_up (s : State) (n : Fin 6) (f : FeedTracker → FeedTracker) :
    (s.mapFeed n f).up = s.up := rfl

@[simp] theorem State.mapFeed_refusedWrites (s : State) (n : Fin 6) (f : FeedTracker → FeedTracker) :
    (s.mapFeed n f).refusedWrites = s.refusedWrites := rfl

@[simp] theorem State.mapFeed_bus (s : State) (n : Fin 6) (f : FeedTracker → FeedTracker) :
    (s.mapFeed n f).bus = s.bus := rfl

@[simp] theorem State.mapFeed_channels (s : State) (n : Fin 6) (f : FeedTracker → FeedTracker) :
    (s.mapFeed n f).channels = s.channels := rfl

@[simp] theorem State.mapFeed_feeds (s : State) (n : Fin 6) (f : FeedTracker → FeedTracker) :
    (s.mapFeed n f).feeds = s.feeds.set n (f s.feeds[n]) := rfl

@[simp] theorem State.mapFeed_clips (s : State) (n : Fin 6) (f : FeedTracker → FeedTracker) :
    (s.mapFeed n f).clips = s.clips := rfl

@[simp] theorem State.mapFeed_verifyQueue (s : State) (n : Fin 6) (f : FeedTracker → FeedTracker) :
    (s.mapFeed n f).verifyQueue = s.verifyQueue := rfl

@[simp] theorem State.mapFeed_verifyRead (s : State) (n : Fin 6) (f : FeedTracker → FeedTracker) :
    (s.mapFeed n f).verifyRead = s.verifyRead := rfl

@[simp] theorem State.mapFeed_bindings (s : State) (n : Fin 6) (f : FeedTracker → FeedTracker) :
    (s.mapFeed n f).bindings = s.bindings := rfl

@[simp] theorem State.mapFeed_windows (s : State) (n : Fin 6) (f : FeedTracker → FeedTracker) :
    (s.mapFeed n f).windows = s.windows := rfl

@[simp] theorem State.mapFeed_receiver (s : State) (n : Fin 6) (f : FeedTracker → FeedTracker) :
    (s.mapFeed n f).receiver = s.receiver := rfl

@[simp] theorem State.mapFeed_alerts (s : State) (n : Fin 6) (f : FeedTracker → FeedTracker) :
    (s.mapFeed n f).alerts = s.alerts := rfl

@[simp] theorem State.mapFeed_log (s : State) (n : Fin 6) (f : FeedTracker → FeedTracker) :
    (s.mapFeed n f).log = s.log := rfl

@[simp] theorem State.mapFeed_dir (s : State) (n : Fin 6) (f : FeedTracker → FeedTracker) :
    (s.mapFeed n f).dir = s.dir := rfl

/-! ## State.setWindow -/

@[simp] theorem State.setWindow_pending (s : State) (w : Fin 48) (x : Option Window) :
    (s.setWindow w x).pending = s.pending := rfl

@[simp] theorem State.setWindow_boot (s : State) (w : Fin 48) (x : Option Window) :
    (s.setWindow w x).boot = s.boot := rfl

@[simp] theorem State.setWindow_faultLine (s : State) (w : Fin 48) (x : Option Window) :
    (s.setWindow w x).faultLine = s.faultLine := rfl

@[simp] theorem State.setWindow_image (s : State) (w : Fin 48) (x : Option Window) :
    (s.setWindow w x).image = s.image := rfl

@[simp] theorem State.setWindow_house (s : State) (w : Fin 48) (x : Option Window) :
    (s.setWindow w x).house = s.house := rfl

@[simp] theorem State.setWindow_map (s : State) (w : Fin 48) (x : Option Window) :
    (s.setWindow w x).map = s.map := rfl

@[simp] theorem State.setWindow_entries (s : State) (w : Fin 48) (x : Option Window) :
    (s.setWindow w x).entries = s.entries := rfl

@[simp] theorem State.setWindow_up (s : State) (w : Fin 48) (x : Option Window) :
    (s.setWindow w x).up = s.up := rfl

@[simp] theorem State.setWindow_refusedWrites (s : State) (w : Fin 48) (x : Option Window) :
    (s.setWindow w x).refusedWrites = s.refusedWrites := rfl

@[simp] theorem State.setWindow_bus (s : State) (w : Fin 48) (x : Option Window) :
    (s.setWindow w x).bus = s.bus := rfl

@[simp] theorem State.setWindow_channels (s : State) (w : Fin 48) (x : Option Window) :
    (s.setWindow w x).channels = s.channels := rfl

@[simp] theorem State.setWindow_feeds (s : State) (w : Fin 48) (x : Option Window) :
    (s.setWindow w x).feeds = s.feeds := rfl

@[simp] theorem State.setWindow_clips (s : State) (w : Fin 48) (x : Option Window) :
    (s.setWindow w x).clips = s.clips := rfl

@[simp] theorem State.setWindow_verifyQueue (s : State) (w : Fin 48) (x : Option Window) :
    (s.setWindow w x).verifyQueue = s.verifyQueue := rfl

@[simp] theorem State.setWindow_verifyRead (s : State) (w : Fin 48) (x : Option Window) :
    (s.setWindow w x).verifyRead = s.verifyRead := rfl

@[simp] theorem State.setWindow_bindings (s : State) (w : Fin 48) (x : Option Window) :
    (s.setWindow w x).bindings = s.bindings := rfl

@[simp] theorem State.setWindow_windows (s : State) (w : Fin 48) (x : Option Window) :
    (s.setWindow w x).windows = s.windows.set w x := rfl

@[simp] theorem State.setWindow_receiver (s : State) (w : Fin 48) (x : Option Window) :
    (s.setWindow w x).receiver = s.receiver := rfl

@[simp] theorem State.setWindow_alerts (s : State) (w : Fin 48) (x : Option Window) :
    (s.setWindow w x).alerts = s.alerts := rfl

@[simp] theorem State.setWindow_log (s : State) (w : Fin 48) (x : Option Window) :
    (s.setWindow w x).log = s.log := rfl

@[simp] theorem State.setWindow_dir (s : State) (w : Fin 48) (x : Option Window) :
    (s.setWindow w x).dir = s.dir := rfl

/-! ## State.setBindings -/

@[simp] theorem State.setBindings_pending (s : State) (c : Fin 32) (t : Vector (Option Binding) 8) :
    (s.setBindings c t).pending = s.pending := rfl

@[simp] theorem State.setBindings_boot (s : State) (c : Fin 32) (t : Vector (Option Binding) 8) :
    (s.setBindings c t).boot = s.boot := rfl

@[simp] theorem State.setBindings_faultLine (s : State) (c : Fin 32) (t : Vector (Option Binding) 8) :
    (s.setBindings c t).faultLine = s.faultLine := rfl

@[simp] theorem State.setBindings_image (s : State) (c : Fin 32) (t : Vector (Option Binding) 8) :
    (s.setBindings c t).image = s.image := rfl

@[simp] theorem State.setBindings_house (s : State) (c : Fin 32) (t : Vector (Option Binding) 8) :
    (s.setBindings c t).house = s.house := rfl

@[simp] theorem State.setBindings_map (s : State) (c : Fin 32) (t : Vector (Option Binding) 8) :
    (s.setBindings c t).map = s.map := rfl

@[simp] theorem State.setBindings_entries (s : State) (c : Fin 32) (t : Vector (Option Binding) 8) :
    (s.setBindings c t).entries = s.entries := rfl

@[simp] theorem State.setBindings_up (s : State) (c : Fin 32) (t : Vector (Option Binding) 8) :
    (s.setBindings c t).up = s.up := rfl

@[simp] theorem State.setBindings_refusedWrites (s : State) (c : Fin 32) (t : Vector (Option Binding) 8) :
    (s.setBindings c t).refusedWrites = s.refusedWrites := rfl

@[simp] theorem State.setBindings_bus (s : State) (c : Fin 32) (t : Vector (Option Binding) 8) :
    (s.setBindings c t).bus = s.bus := rfl

@[simp] theorem State.setBindings_channels (s : State) (c : Fin 32) (t : Vector (Option Binding) 8) :
    (s.setBindings c t).channels = s.channels := rfl

@[simp] theorem State.setBindings_feeds (s : State) (c : Fin 32) (t : Vector (Option Binding) 8) :
    (s.setBindings c t).feeds = s.feeds := rfl

@[simp] theorem State.setBindings_clips (s : State) (c : Fin 32) (t : Vector (Option Binding) 8) :
    (s.setBindings c t).clips = s.clips := rfl

@[simp] theorem State.setBindings_verifyQueue (s : State) (c : Fin 32) (t : Vector (Option Binding) 8) :
    (s.setBindings c t).verifyQueue = s.verifyQueue := rfl

@[simp] theorem State.setBindings_verifyRead (s : State) (c : Fin 32) (t : Vector (Option Binding) 8) :
    (s.setBindings c t).verifyRead = s.verifyRead := rfl

@[simp] theorem State.setBindings_bindings (s : State) (c : Fin 32) (t : Vector (Option Binding) 8) :
    (s.setBindings c t).bindings = s.bindings.set c t := rfl

@[simp] theorem State.setBindings_windows (s : State) (c : Fin 32) (t : Vector (Option Binding) 8) :
    (s.setBindings c t).windows = s.windows := rfl

@[simp] theorem State.setBindings_receiver (s : State) (c : Fin 32) (t : Vector (Option Binding) 8) :
    (s.setBindings c t).receiver = s.receiver := rfl

@[simp] theorem State.setBindings_alerts (s : State) (c : Fin 32) (t : Vector (Option Binding) 8) :
    (s.setBindings c t).alerts = s.alerts := rfl

@[simp] theorem State.setBindings_log (s : State) (c : Fin 32) (t : Vector (Option Binding) 8) :
    (s.setBindings c t).log = s.log := rfl

@[simp] theorem State.setBindings_dir (s : State) (c : Fin 32) (t : Vector (Option Binding) 8) :
    (s.setBindings c t).dir = s.dir := rfl

/-! ## State.atTime -/

@[simp] theorem State.atTime_pending (s : State) (t : Nat) :
    (s.atTime t).pending = s.pending := rfl

@[simp] theorem State.atTime_boot (s : State) (t : Nat) :
    (s.atTime t).boot = s.boot := rfl

@[simp] theorem State.atTime_faultLine (s : State) (t : Nat) :
    (s.atTime t).faultLine = s.faultLine := rfl

@[simp] theorem State.atTime_image (s : State) (t : Nat) :
    (s.atTime t).image = s.image := rfl

@[simp] theorem State.atTime_house (s : State) (t : Nat) :
    (s.atTime t).house = max s.house t := rfl

@[simp] theorem State.atTime_map (s : State) (t : Nat) :
    (s.atTime t).map = s.map := rfl

@[simp] theorem State.atTime_entries (s : State) (t : Nat) :
    (s.atTime t).entries = s.entries := rfl

@[simp] theorem State.atTime_up (s : State) (t : Nat) :
    (s.atTime t).up = s.up := rfl

@[simp] theorem State.atTime_refusedWrites (s : State) (t : Nat) :
    (s.atTime t).refusedWrites = s.refusedWrites := rfl

@[simp] theorem State.atTime_bus (s : State) (t : Nat) :
    (s.atTime t).bus = s.bus := rfl

@[simp] theorem State.atTime_channels (s : State) (t : Nat) :
    (s.atTime t).channels = s.channels := rfl

@[simp] theorem State.atTime_feeds (s : State) (t : Nat) :
    (s.atTime t).feeds = s.feeds := rfl

@[simp] theorem State.atTime_clips (s : State) (t : Nat) :
    (s.atTime t).clips = s.clips := rfl

@[simp] theorem State.atTime_verifyQueue (s : State) (t : Nat) :
    (s.atTime t).verifyQueue = s.verifyQueue := rfl

@[simp] theorem State.atTime_verifyRead (s : State) (t : Nat) :
    (s.atTime t).verifyRead = s.verifyRead := rfl

@[simp] theorem State.atTime_bindings (s : State) (t : Nat) :
    (s.atTime t).bindings = s.bindings := rfl

@[simp] theorem State.atTime_windows (s : State) (t : Nat) :
    (s.atTime t).windows = s.windows := rfl

@[simp] theorem State.atTime_receiver (s : State) (t : Nat) :
    (s.atTime t).receiver = s.receiver := rfl

@[simp] theorem State.atTime_alerts (s : State) (t : Nat) :
    (s.atTime t).alerts = s.alerts := rfl

@[simp] theorem State.atTime_log (s : State) (t : Nat) :
    (s.atTime t).log = s.log := rfl

@[simp] theorem State.atTime_dir (s : State) (t : Nat) :
    (s.atTime t).dir = s.dir := rfl

/-! ## State.completeTxn -/

@[simp] theorem State.completeTxn_pending (s : State) (id : Nat) :
    (s.completeTxn id).pending = s.pending := rfl

@[simp] theorem State.completeTxn_boot (s : State) (id : Nat) :
    (s.completeTxn id).boot = s.boot := rfl

@[simp] theorem State.completeTxn_faultLine (s : State) (id : Nat) :
    (s.completeTxn id).faultLine = s.faultLine := rfl

@[simp] theorem State.completeTxn_image (s : State) (id : Nat) :
    (s.completeTxn id).image = s.image := rfl

@[simp] theorem State.completeTxn_house (s : State) (id : Nat) :
    (s.completeTxn id).house = s.house := rfl

@[simp] theorem State.completeTxn_map (s : State) (id : Nat) :
    (s.completeTxn id).map = s.map := rfl

@[simp] theorem State.completeTxn_entries (s : State) (id : Nat) :
    (s.completeTxn id).entries = s.entries := rfl

@[simp] theorem State.completeTxn_up (s : State) (id : Nat) :
    (s.completeTxn id).up = s.up := rfl

@[simp] theorem State.completeTxn_refusedWrites (s : State) (id : Nat) :
    (s.completeTxn id).refusedWrites = s.refusedWrites := rfl

@[simp] theorem State.completeTxn_bus (s : State) (id : Nat) :
    (s.completeTxn id).bus = s.bus.complete id := rfl

@[simp] theorem State.completeTxn_channels (s : State) (id : Nat) :
    (s.completeTxn id).channels = s.channels := rfl

@[simp] theorem State.completeTxn_feeds (s : State) (id : Nat) :
    (s.completeTxn id).feeds = s.feeds := rfl

@[simp] theorem State.completeTxn_clips (s : State) (id : Nat) :
    (s.completeTxn id).clips = s.clips := rfl

@[simp] theorem State.completeTxn_verifyQueue (s : State) (id : Nat) :
    (s.completeTxn id).verifyQueue = s.verifyQueue := rfl

@[simp] theorem State.completeTxn_verifyRead (s : State) (id : Nat) :
    (s.completeTxn id).verifyRead = s.verifyRead := rfl

@[simp] theorem State.completeTxn_bindings (s : State) (id : Nat) :
    (s.completeTxn id).bindings = s.bindings := rfl

@[simp] theorem State.completeTxn_windows (s : State) (id : Nat) :
    (s.completeTxn id).windows = s.windows := rfl

@[simp] theorem State.completeTxn_receiver (s : State) (id : Nat) :
    (s.completeTxn id).receiver = s.receiver := rfl

@[simp] theorem State.completeTxn_alerts (s : State) (id : Nat) :
    (s.completeTxn id).alerts = s.alerts := rfl

@[simp] theorem State.completeTxn_log (s : State) (id : Nat) :
    (s.completeTxn id).log = s.log := rfl

@[simp] theorem State.completeTxn_dir (s : State) (id : Nat) :
    (s.completeTxn id).dir = s.dir := rfl

/-! ## State.mapReceiver -/

@[simp] theorem State.mapReceiver_pending (s : State) (f : Receiver → Receiver) :
    (s.mapReceiver f).pending = s.pending := rfl

@[simp] theorem State.mapReceiver_boot (s : State) (f : Receiver → Receiver) :
    (s.mapReceiver f).boot = s.boot := rfl

@[simp] theorem State.mapReceiver_faultLine (s : State) (f : Receiver → Receiver) :
    (s.mapReceiver f).faultLine = s.faultLine := rfl

@[simp] theorem State.mapReceiver_image (s : State) (f : Receiver → Receiver) :
    (s.mapReceiver f).image = s.image := rfl

@[simp] theorem State.mapReceiver_house (s : State) (f : Receiver → Receiver) :
    (s.mapReceiver f).house = s.house := rfl

@[simp] theorem State.mapReceiver_map (s : State) (f : Receiver → Receiver) :
    (s.mapReceiver f).map = s.map := rfl

@[simp] theorem State.mapReceiver_entries (s : State) (f : Receiver → Receiver) :
    (s.mapReceiver f).entries = s.entries := rfl

@[simp] theorem State.mapReceiver_up (s : State) (f : Receiver → Receiver) :
    (s.mapReceiver f).up = s.up := rfl

@[simp] theorem State.mapReceiver_refusedWrites (s : State) (f : Receiver → Receiver) :
    (s.mapReceiver f).refusedWrites = s.refusedWrites := rfl

@[simp] theorem State.mapReceiver_bus (s : State) (f : Receiver → Receiver) :
    (s.mapReceiver f).bus = s.bus := rfl

@[simp] theorem State.mapReceiver_channels (s : State) (f : Receiver → Receiver) :
    (s.mapReceiver f).channels = s.channels := rfl

@[simp] theorem State.mapReceiver_feeds (s : State) (f : Receiver → Receiver) :
    (s.mapReceiver f).feeds = s.feeds := rfl

@[simp] theorem State.mapReceiver_clips (s : State) (f : Receiver → Receiver) :
    (s.mapReceiver f).clips = s.clips := rfl

@[simp] theorem State.mapReceiver_verifyQueue (s : State) (f : Receiver → Receiver) :
    (s.mapReceiver f).verifyQueue = s.verifyQueue := rfl

@[simp] theorem State.mapReceiver_verifyRead (s : State) (f : Receiver → Receiver) :
    (s.mapReceiver f).verifyRead = s.verifyRead := rfl

@[simp] theorem State.mapReceiver_bindings (s : State) (f : Receiver → Receiver) :
    (s.mapReceiver f).bindings = s.bindings := rfl

@[simp] theorem State.mapReceiver_windows (s : State) (f : Receiver → Receiver) :
    (s.mapReceiver f).windows = s.windows := rfl

@[simp] theorem State.mapReceiver_receiver (s : State) (f : Receiver → Receiver) :
    (s.mapReceiver f).receiver = f s.receiver := rfl

@[simp] theorem State.mapReceiver_alerts (s : State) (f : Receiver → Receiver) :
    (s.mapReceiver f).alerts = s.alerts := rfl

@[simp] theorem State.mapReceiver_log (s : State) (f : Receiver → Receiver) :
    (s.mapReceiver f).log = s.log := rfl

@[simp] theorem State.mapReceiver_dir (s : State) (f : Receiver → Receiver) :
    (s.mapReceiver f).dir = s.dir := rfl

/-! ## State.mapDir -/

@[simp] theorem State.mapDir_pending (s : State) (f : DirectiveUnit → DirectiveUnit) :
    (s.mapDir f).pending = s.pending := rfl

@[simp] theorem State.mapDir_boot (s : State) (f : DirectiveUnit → DirectiveUnit) :
    (s.mapDir f).boot = s.boot := rfl

@[simp] theorem State.mapDir_faultLine (s : State) (f : DirectiveUnit → DirectiveUnit) :
    (s.mapDir f).faultLine = s.faultLine := rfl

@[simp] theorem State.mapDir_image (s : State) (f : DirectiveUnit → DirectiveUnit) :
    (s.mapDir f).image = s.image := rfl

@[simp] theorem State.mapDir_house (s : State) (f : DirectiveUnit → DirectiveUnit) :
    (s.mapDir f).house = s.house := rfl

@[simp] theorem State.mapDir_map (s : State) (f : DirectiveUnit → DirectiveUnit) :
    (s.mapDir f).map = s.map := rfl

@[simp] theorem State.mapDir_entries (s : State) (f : DirectiveUnit → DirectiveUnit) :
    (s.mapDir f).entries = s.entries := rfl

@[simp] theorem State.mapDir_up (s : State) (f : DirectiveUnit → DirectiveUnit) :
    (s.mapDir f).up = s.up := rfl

@[simp] theorem State.mapDir_refusedWrites (s : State) (f : DirectiveUnit → DirectiveUnit) :
    (s.mapDir f).refusedWrites = s.refusedWrites := rfl

@[simp] theorem State.mapDir_bus (s : State) (f : DirectiveUnit → DirectiveUnit) :
    (s.mapDir f).bus = s.bus := rfl

@[simp] theorem State.mapDir_channels (s : State) (f : DirectiveUnit → DirectiveUnit) :
    (s.mapDir f).channels = s.channels := rfl

@[simp] theorem State.mapDir_feeds (s : State) (f : DirectiveUnit → DirectiveUnit) :
    (s.mapDir f).feeds = s.feeds := rfl

@[simp] theorem State.mapDir_clips (s : State) (f : DirectiveUnit → DirectiveUnit) :
    (s.mapDir f).clips = s.clips := rfl

@[simp] theorem State.mapDir_verifyQueue (s : State) (f : DirectiveUnit → DirectiveUnit) :
    (s.mapDir f).verifyQueue = s.verifyQueue := rfl

@[simp] theorem State.mapDir_verifyRead (s : State) (f : DirectiveUnit → DirectiveUnit) :
    (s.mapDir f).verifyRead = s.verifyRead := rfl

@[simp] theorem State.mapDir_bindings (s : State) (f : DirectiveUnit → DirectiveUnit) :
    (s.mapDir f).bindings = s.bindings := rfl

@[simp] theorem State.mapDir_windows (s : State) (f : DirectiveUnit → DirectiveUnit) :
    (s.mapDir f).windows = s.windows := rfl

@[simp] theorem State.mapDir_receiver (s : State) (f : DirectiveUnit → DirectiveUnit) :
    (s.mapDir f).receiver = s.receiver := rfl

@[simp] theorem State.mapDir_alerts (s : State) (f : DirectiveUnit → DirectiveUnit) :
    (s.mapDir f).alerts = s.alerts := rfl

@[simp] theorem State.mapDir_log (s : State) (f : DirectiveUnit → DirectiveUnit) :
    (s.mapDir f).log = s.log := rfl

@[simp] theorem State.mapDir_dir (s : State) (f : DirectiveUnit → DirectiveUnit) :
    (s.mapDir f).dir = f s.dir := rfl

/-! ## State.putResponse -/

@[simp] theorem State.putResponse_pending (s : State) (q k : Nat) (r : DirectiveResult) (d t : Nat) :
    (s.putResponse q k r d t).pending = s.pending := rfl

@[simp] theorem State.putResponse_boot (s : State) (q k : Nat) (r : DirectiveResult) (d t : Nat) :
    (s.putResponse q k r d t).boot = s.boot := rfl

@[simp] theorem State.putResponse_faultLine (s : State) (q k : Nat) (r : DirectiveResult) (d t : Nat) :
    (s.putResponse q k r d t).faultLine = s.faultLine := rfl

@[simp] theorem State.putResponse_image (s : State) (q k : Nat) (r : DirectiveResult) (d t : Nat) :
    (s.putResponse q k r d t).image = s.image := rfl

@[simp] theorem State.putResponse_house (s : State) (q k : Nat) (r : DirectiveResult) (d t : Nat) :
    (s.putResponse q k r d t).house = s.house := rfl

@[simp] theorem State.putResponse_map (s : State) (q k : Nat) (r : DirectiveResult) (d t : Nat) :
    (s.putResponse q k r d t).map = s.map := rfl

@[simp] theorem State.putResponse_entries (s : State) (q k : Nat) (r : DirectiveResult) (d t : Nat) :
    (s.putResponse q k r d t).entries = s.entries := rfl

@[simp] theorem State.putResponse_up (s : State) (q k : Nat) (r : DirectiveResult) (d t : Nat) :
    (s.putResponse q k r d t).up = s.up := rfl

@[simp] theorem State.putResponse_refusedWrites (s : State) (q k : Nat) (r : DirectiveResult) (d t : Nat) :
    (s.putResponse q k r d t).refusedWrites = s.refusedWrites := rfl

@[simp] theorem State.putResponse_bus (s : State) (q k : Nat) (r : DirectiveResult) (d t : Nat) :
    (s.putResponse q k r d t).bus = s.bus.write (s.responseBase + 16 * s.dir.responseTail) (responseBytes q k r d t s.house) .responseEntry := rfl

@[simp] theorem State.putResponse_channels (s : State) (q k : Nat) (r : DirectiveResult) (d t : Nat) :
    (s.putResponse q k r d t).channels = s.channels := rfl

@[simp] theorem State.putResponse_feeds (s : State) (q k : Nat) (r : DirectiveResult) (d t : Nat) :
    (s.putResponse q k r d t).feeds = s.feeds := rfl

@[simp] theorem State.putResponse_clips (s : State) (q k : Nat) (r : DirectiveResult) (d t : Nat) :
    (s.putResponse q k r d t).clips = s.clips := rfl

@[simp] theorem State.putResponse_verifyQueue (s : State) (q k : Nat) (r : DirectiveResult) (d t : Nat) :
    (s.putResponse q k r d t).verifyQueue = s.verifyQueue := rfl

@[simp] theorem State.putResponse_verifyRead (s : State) (q k : Nat) (r : DirectiveResult) (d t : Nat) :
    (s.putResponse q k r d t).verifyRead = s.verifyRead := rfl

@[simp] theorem State.putResponse_bindings (s : State) (q k : Nat) (r : DirectiveResult) (d t : Nat) :
    (s.putResponse q k r d t).bindings = s.bindings := rfl

@[simp] theorem State.putResponse_windows (s : State) (q k : Nat) (r : DirectiveResult) (d t : Nat) :
    (s.putResponse q k r d t).windows = s.windows := rfl

@[simp] theorem State.putResponse_receiver (s : State) (q k : Nat) (r : DirectiveResult) (d t : Nat) :
    (s.putResponse q k r d t).receiver = s.receiver := rfl

@[simp] theorem State.putResponse_alerts (s : State) (q k : Nat) (r : DirectiveResult) (d t : Nat) :
    (s.putResponse q k r d t).alerts = s.alerts := rfl

@[simp] theorem State.putResponse_log (s : State) (q k : Nat) (r : DirectiveResult) (d t : Nat) :
    (s.putResponse q k r d t).log = s.log := rfl

@[simp] theorem State.putResponse_dir (s : State) (q k : Nat) (r : DirectiveResult) (d t : Nat) :
    (s.putResponse q k r d t).dir = { s.dir with unconsumed := s.dir.unconsumed + 1, responseTail := (s.dir.responseTail + 1) % 64 } := rfl

/-! ## State.respond -/

@[simp] theorem State.respond_pending (s : State) (q k : Nat) (r : DirectiveResult) (d t : Nat) :
    (s.respond q k r d t).pending = s.pending := rfl

@[simp] theorem State.respond_boot (s : State) (q k : Nat) (r : DirectiveResult) (d t : Nat) :
    (s.respond q k r d t).boot = s.boot := rfl

@[simp] theorem State.respond_faultLine (s : State) (q k : Nat) (r : DirectiveResult) (d t : Nat) :
    (s.respond q k r d t).faultLine = s.faultLine := rfl

@[simp] theorem State.respond_image (s : State) (q k : Nat) (r : DirectiveResult) (d t : Nat) :
    (s.respond q k r d t).image = s.image := rfl

@[simp] theorem State.respond_house (s : State) (q k : Nat) (r : DirectiveResult) (d t : Nat) :
    (s.respond q k r d t).house = s.house := rfl

@[simp] theorem State.respond_map (s : State) (q k : Nat) (r : DirectiveResult) (d t : Nat) :
    (s.respond q k r d t).map = s.map := rfl

@[simp] theorem State.respond_entries (s : State) (q k : Nat) (r : DirectiveResult) (d t : Nat) :
    (s.respond q k r d t).entries = s.entries := rfl

@[simp] theorem State.respond_up (s : State) (q k : Nat) (r : DirectiveResult) (d t : Nat) :
    (s.respond q k r d t).up = s.up := rfl

@[simp] theorem State.respond_refusedWrites (s : State) (q k : Nat) (r : DirectiveResult) (d t : Nat) :
    (s.respond q k r d t).refusedWrites = s.refusedWrites := rfl

@[simp] theorem State.respond_bus (s : State) (q k : Nat) (r : DirectiveResult) (d t : Nat) :
    (s.respond q k r d t).bus = s.bus.write (s.responseBase + 16 * s.dir.responseTail) (responseBytes q k r d t s.house) .responseEntry := rfl

@[simp] theorem State.respond_channels (s : State) (q k : Nat) (r : DirectiveResult) (d t : Nat) :
    (s.respond q k r d t).channels = s.channels := rfl

@[simp] theorem State.respond_feeds (s : State) (q k : Nat) (r : DirectiveResult) (d t : Nat) :
    (s.respond q k r d t).feeds = s.feeds := rfl

@[simp] theorem State.respond_clips (s : State) (q k : Nat) (r : DirectiveResult) (d t : Nat) :
    (s.respond q k r d t).clips = s.clips := rfl

@[simp] theorem State.respond_verifyQueue (s : State) (q k : Nat) (r : DirectiveResult) (d t : Nat) :
    (s.respond q k r d t).verifyQueue = s.verifyQueue := rfl

@[simp] theorem State.respond_verifyRead (s : State) (q k : Nat) (r : DirectiveResult) (d t : Nat) :
    (s.respond q k r d t).verifyRead = s.verifyRead := rfl

@[simp] theorem State.respond_bindings (s : State) (q k : Nat) (r : DirectiveResult) (d t : Nat) :
    (s.respond q k r d t).bindings = s.bindings := rfl

@[simp] theorem State.respond_windows (s : State) (q k : Nat) (r : DirectiveResult) (d t : Nat) :
    (s.respond q k r d t).windows = s.windows := rfl

@[simp] theorem State.respond_receiver (s : State) (q k : Nat) (r : DirectiveResult) (d t : Nat) :
    (s.respond q k r d t).receiver = s.receiver := rfl

@[simp] theorem State.respond_alerts (s : State) (q k : Nat) (r : DirectiveResult) (d t : Nat) :
    (s.respond q k r d t).alerts = s.alerts := rfl

@[simp] theorem State.respond_log (s : State) (q k : Nat) (r : DirectiveResult) (d t : Nat) :
    (s.respond q k r d t).log = s.log := rfl

@[simp] theorem State.respond_dir (s : State) (q k : Nat) (r : DirectiveResult) (d t : Nat) :
    (s.respond q k r d t).dir = { s.dir with owed := s.dir.owed - 1, unconsumed := s.dir.unconsumed + 1, responseTail := (s.dir.responseTail + 1) % 64 } := rfl

/-! ## State.record -/

@[simp] theorem State.record_pending (s : State) (r : Record) :
    (s.record r).pending = s.pending := rfl

@[simp] theorem State.record_boot (s : State) (r : Record) :
    (s.record r).boot = s.boot := rfl

@[simp] theorem State.record_faultLine (s : State) (r : Record) :
    (s.record r).faultLine = s.faultLine := rfl

@[simp] theorem State.record_image (s : State) (r : Record) :
    (s.record r).image = s.image := rfl

@[simp] theorem State.record_house (s : State) (r : Record) :
    (s.record r).house = s.house := rfl

@[simp] theorem State.record_map (s : State) (r : Record) :
    (s.record r).map = s.map := rfl

@[simp] theorem State.record_entries (s : State) (r : Record) :
    (s.record r).entries = s.entries := rfl

@[simp] theorem State.record_up (s : State) (r : Record) :
    (s.record r).up = s.up := rfl

@[simp] theorem State.record_refusedWrites (s : State) (r : Record) :
    (s.record r).refusedWrites = s.refusedWrites := rfl

@[simp] theorem State.record_channels (s : State) (r : Record) :
    (s.record r).channels = s.channels := rfl

@[simp] theorem State.record_feeds (s : State) (r : Record) :
    (s.record r).feeds = s.feeds := rfl

@[simp] theorem State.record_clips (s : State) (r : Record) :
    (s.record r).clips = s.clips := rfl

@[simp] theorem State.record_verifyQueue (s : State) (r : Record) :
    (s.record r).verifyQueue = s.verifyQueue := rfl

@[simp] theorem State.record_verifyRead (s : State) (r : Record) :
    (s.record r).verifyRead = s.verifyRead := rfl

@[simp] theorem State.record_bindings (s : State) (r : Record) :
    (s.record r).bindings = s.bindings := rfl

@[simp] theorem State.record_windows (s : State) (r : Record) :
    (s.record r).windows = s.windows := rfl

@[simp] theorem State.record_receiver (s : State) (r : Record) :
    (s.record r).receiver = s.receiver := rfl

@[simp] theorem State.record_alerts (s : State) (r : Record) :
    (s.record r).alerts = s.alerts := rfl

@[simp] theorem State.record_dir (s : State) (r : Record) :
    (s.record r).dir = s.dir := rfl

/-! ## State.closeBatch -/

@[simp] theorem State.closeBatch_pending (s : State) :
    (s.closeBatch).pending = s.pending := rfl

@[simp] theorem State.closeBatch_boot (s : State) :
    (s.closeBatch).boot = s.boot := rfl

@[simp] theorem State.closeBatch_faultLine (s : State) :
    (s.closeBatch).faultLine = s.faultLine := rfl

@[simp] theorem State.closeBatch_image (s : State) :
    (s.closeBatch).image = s.image := rfl

@[simp] theorem State.closeBatch_house (s : State) :
    (s.closeBatch).house = s.house := rfl

@[simp] theorem State.closeBatch_map (s : State) :
    (s.closeBatch).map = s.map := rfl

@[simp] theorem State.closeBatch_entries (s : State) :
    (s.closeBatch).entries = s.entries := rfl

@[simp] theorem State.closeBatch_up (s : State) :
    (s.closeBatch).up = s.up := rfl

@[simp] theorem State.closeBatch_refusedWrites (s : State) :
    (s.closeBatch).refusedWrites = s.refusedWrites := rfl

@[simp] theorem State.closeBatch_bus (s : State) :
    (s.closeBatch).bus = (s.log.close s.bus).2 := rfl

@[simp] theorem State.closeBatch_channels (s : State) :
    (s.closeBatch).channels = s.channels := rfl

@[simp] theorem State.closeBatch_feeds (s : State) :
    (s.closeBatch).feeds = s.feeds := rfl

@[simp] theorem State.closeBatch_clips (s : State) :
    (s.closeBatch).clips = s.clips := rfl

@[simp] theorem State.closeBatch_verifyQueue (s : State) :
    (s.closeBatch).verifyQueue = s.verifyQueue := rfl

@[simp] theorem State.closeBatch_verifyRead (s : State) :
    (s.closeBatch).verifyRead = s.verifyRead := rfl

@[simp] theorem State.closeBatch_bindings (s : State) :
    (s.closeBatch).bindings = s.bindings := rfl

@[simp] theorem State.closeBatch_windows (s : State) :
    (s.closeBatch).windows = s.windows := rfl

@[simp] theorem State.closeBatch_receiver (s : State) :
    (s.closeBatch).receiver = s.receiver := rfl

@[simp] theorem State.closeBatch_alerts (s : State) :
    (s.closeBatch).alerts = s.alerts := rfl

@[simp] theorem State.closeBatch_log (s : State) :
    (s.closeBatch).log = (s.log.close s.bus).1 := rfl

@[simp] theorem State.closeBatch_dir (s : State) :
    (s.closeBatch).dir = s.dir := rfl

end Sys2Proof.Machine
end

