-- ==== Sys2Proof/Laws/Ops.lean ====
section
/-! SUPPORT. What each shared operation can do, said once: one indexed place after another's update, requests to the arbiter,
answers upstream, responses of memory, directives taken, recent lists, and the log's offsets. -/

namespace Sys2Proof.Machine

/-! ## One indexed place (read after write, and every other place as it was) -/

@[simp] theorem State.chan_mapChan_self (s : State) (c : Fin 32) (f : Channel → Channel) :
    (s.mapChan c f).chan c = f (s.chan c) := by
  simp [State.chan]

theorem State.chan_mapChan_ne (s : State) {c d : Fin 32} (f : Channel → Channel) (h : d ≠ c) :
    (s.mapChan c f).chan d = s.chan d := by
  have : ¬ c.val = d.val := fun e => h (Fin.ext e.symm)
  simp [State.chan, this]

@[simp] theorem State.clip_mapClip_self (s : State) (n : Fin 64) (f : Clip → Clip) :
    (s.mapClip n f).clip n = f (s.clip n) := by
  simp [State.clip]

theorem State.clip_mapClip_ne (s : State) {n k : Fin 64} (f : Clip → Clip) (h : k ≠ n) :
    (s.mapClip n f).clip k = s.clip k := by
  have : ¬ n.val = k.val := fun e => h (Fin.ext e.symm)
  simp [State.clip, this]

@[simp] theorem State.feed_mapFeed_self (s : State) (n : Fin 6) (f : FeedTracker → FeedTracker) :
    (s.mapFeed n f).feed n = f (s.feed n) := by
  simp [State.feed]

theorem State.feed_mapFeed_ne (s : State) {n k : Fin 6} (f : FeedTracker → FeedTracker) (h : k ≠ n) :
    (s.mapFeed n f).feed k = s.feed k := by
  have : ¬ n.val = k.val := fun e => h (Fin.ext e.symm)
  simp [State.feed, this]

@[simp] theorem State.window_setWindow_self (s : State) (w : Fin 48) (x : Option Window) :
    (s.setWindow w x).window w = x := by
  simp [State.window]

theorem State.window_setWindow_ne (s : State) {w k : Fin 48} (x : Option Window) (h : k ≠ w) :
    (s.setWindow w x).window k = s.window k := by
  have : ¬ w.val = k.val := fun e => h (Fin.ext e.symm)
  simp [State.window, this]

@[simp] theorem State.bindingTable_setBindings_self (s : State) (c : Fin 32) (t : Vector (Option Binding) 8) :
    (s.setBindings c t).bindingTable c = t := by
  simp [State.bindingTable]

/-- An update of a channel leaves the clip records, the feeds, the windows and the bindings, read one by one. -/
@[simp] theorem State.clip_mapChan (s : State) (c : Fin 32) (f : Channel → Channel) (n : Fin 64) :
    (s.mapChan c f).clip n = s.clip n := rfl

@[simp] theorem State.feed_mapChan (s : State) (c : Fin 32) (f : Channel → Channel) (n : Fin 6) :
    (s.mapChan c f).feed n = s.feed n := rfl

@[simp] theorem State.window_mapChan (s : State) (c : Fin 32) (f : Channel → Channel) (w : Fin 48) :
    (s.mapChan c f).window w = s.window w := rfl

@[simp] theorem State.chan_mapClip (s : State) (n : Fin 64) (f : Clip → Clip) (c : Fin 32) :
    (s.mapClip n f).chan c = s.chan c := rfl

@[simp] theorem State.chan_setWindow (s : State) (w : Fin 48) (x : Option Window) (c : Fin 32) :
    (s.setWindow w x).chan c = s.chan c := rfl

@[simp] theorem State.chan_record (s : State) (r : Record) (c : Fin 32) : (s.record r).chan c = s.chan c := rfl

@[simp] theorem State.clip_record (s : State) (r : Record) (n : Fin 64) : (s.record r).clip n = s.clip n := rfl

@[simp] theorem State.feed_record (s : State) (r : Record) (n : Fin 6) : (s.record r).feed n = s.feed n := rfl

@[simp] theorem State.window_record (s : State) (r : Record) (w : Fin 48) : (s.record r).window w = s.window w := rfl

@[simp] theorem State.chan_respond (s : State) (q k : Nat) (r : DirectiveResult) (d t : Nat) (c : Fin 32) :
    (s.respond q k r d t).chan c = s.chan c := rfl

@[simp] theorem State.clip_respond (s : State) (q k : Nat) (r : DirectiveResult) (d t : Nat) (n : Fin 64) :
    (s.respond q k r d t).clip n = s.clip n := rfl

@[simp] theorem State.window_respond (s : State) (q k : Nat) (r : DirectiveResult) (d t : Nat) (w : Fin 48) :
    (s.respond q k r d t).window w = s.window w := rfl

/-! ## The arbiter's list (R13) -/

@[simp] theorem Bus.request_txns (b : Bus) (c : Nat) (w : Bool) (a l : Nat) (d : List Byte) (e : List Bool) (o : Owner) :
    (b.request c w a l d e o).txns = b.txns ++ [⟨b.next, b.next, c, w, a, l, d, e, o, false⟩] := rfl

@[simp] theorem Bus.request_next (b : Bus) (c : Nat) (w : Bool) (a l : Nat) (d : List Byte) (e : List Bool) (o : Owner) :
    (b.request c w a l d e o).next = b.next + 1 := rfl

@[simp] theorem Bus.request_choices (b : Bus) (c : Nat) (w : Bool) (a l : Nat) (d : List Byte) (e : List Bool) (o : Owner) :
    (b.request c w a l d e o).choices = b.choices := rfl

@[simp] theorem Bus.write_txns (b : Bus) (a : Nat) (d : List Byte) (o : Owner) :
    (b.write a d o).txns = b.txns ++ [⟨b.next, b.next, 2, true, a, d.length, d, List.replicate d.length true, o, false⟩] := rfl

@[simp] theorem Bus.write_next (b : Bus) (a : Nat) (d : List Byte) (o : Owner) : (b.write a d o).next = b.next + 1 := rfl

@[simp] theorem Bus.read_txns (b : Bus) (c a l : Nat) (o : Owner) :
    (b.read c a l o).txns = b.txns ++ [⟨b.next, b.next, c, false, a, l, [], [], o, false⟩] := rfl

@[simp] theorem Bus.read_next (b : Bus) (c a l : Nat) (o : Owner) : (b.read c a l o).next = b.next + 1 := rfl

@[simp] theorem Bus.complete_next (b : Bus) (id : Nat) : (b.complete id).next = b.next := rfl

@[simp] theorem Bus.complete_txns (b : Bus) (id : Nat) : (b.complete id).txns = b.txns.filter fun t => t.id != id := rfl

/-- A transaction found by its tag is in the list, is issued, and carries that tag. -/
theorem Bus.issuedTxn_spec {b : Bus} {id : Nat} {t : Txn} (h : b.issuedTxn id = some t) :
    t ∈ b.txns ∧ t.id = id ∧ t.issued = true := by
  have hp := List.find?_some h
  simp only [Bool.and_eq_true, beq_iff_eq] at hp
  exact ⟨List.mem_of_find?_eq_some h, hp.1, hp.2⟩

/-! ## Answers upstream (R1) -/

/-- What an answer can do: nothing when the entry is not there; otherwise one response with the entry's tag, and the entry is
free. -/
theorem State.answer_cases (s : State) (id : Nat) (r : UpResult) :
    (s.entries.find? (fun e => e.id == id) = none ∧ s.answer id r = s) ∨
    (∃ e, s.entries.find? (fun e => e.id == id) = some e ∧
      s.answer id r = { s with up := s.up ++ [⟨e.tag, r⟩], entries := s.entries.filter fun e => e.id != id }) := by
  unfold State.answer
  split
  · exact .inl ⟨‹_›, rfl⟩
  · exact .inr ⟨_, ‹_›, rfl⟩

/-- An answer takes no entry in. -/
theorem State.answer_entries_sublist (s : State) (id : Nat) (r : UpResult) : (s.answer id r).entries.Sublist s.entries := by
  rcases s.answer_cases id r with ⟨-, h⟩ | ⟨e, -, h⟩
  · rw [h]
  · rw [h]; exact List.filter_sublist

/-! ## Responses of memory, and directives taken -/

/-- What a response of memory can do. -/
theorem State.onResponse_cases (s : State) (id : Nat) (f : Txn → State → State) :
    (s.bus.issuedTxn id = none ∧ s.onResponse id f = s) ∨
    (∃ t, s.bus.issuedTxn id = some t ∧ t.owner = .stale ∧ s.onResponse id f = s.completeTxn id) ∨
    (∃ t, s.bus.issuedTxn id = some t ∧ t.owner ≠ .stale ∧ s.onResponse id f = f t s) := by
  unfold State.onResponse
  split
  · exact .inl ⟨‹_›, rfl⟩
  · split
    · exact .inr (.inl ⟨_, ‹_›, ‹_›, rfl⟩)
    · exact .inr (.inr ⟨_, ‹_›, ‹_›, rfl⟩)

/-- The response of a transaction that is not stale is handled by `f`. -/
theorem State.onResponse_of {s : State} {id : Nat} {t : Txn} (f : Txn → State → State) (h : s.bus.issuedTxn id = some t)
    (ho : t.owner ≠ .stale) : s.onResponse id f = f t s := by
  unfold State.onResponse
  rw [h]
  exact if_neg ho

/-- The directive in hand is taken by its block. -/
theorem State.takeDirective_of {s : State} {c : Instr} (f : State → State) (h : s.dir.dispatched = some c) :
    s.takeDirective c f = f { s with dir := { s.dir with dispatched := none } } :=
  if_pos h

/-- A directive command that is not the one in hand changes nothing. -/
theorem State.takeDirective_other {s : State} {c : Instr} (f : State → State) (h : s.dir.dispatched ≠ some c) :
    s.takeDirective c f = s :=
  if_neg h

/-! ## Recent lists (R96, R154) -/

theorem joinRecent_length_le (cap : Nat) (l : List Nat) (x : Nat) : (joinRecent cap l x).length ≤ cap := by
  simp only [joinRecent, List.length_drop, List.length_append, List.length_cons, List.length_nil]
  omega

/-- A recent list holds no id twice when the list it was made from held none twice. -/
theorem joinRecent_nodup (cap : Nat) {l : List Nat} (x : Nat) (h : l.Nodup) : (joinRecent cap l x).Nodup := by
  refine List.Nodup.sublist (List.drop_sublist _ _) ?_
  refine List.nodup_append.2 ⟨h.filter _, by simp, ?_⟩
  intro a ha b hb
  simp only [List.mem_filter, bne_iff_ne, ne_eq, List.mem_singleton] at ha hb
  exact fun e => ha.2 (e.trans hb)

/-- What is in a recent list was there before, or has just joined. -/
theorem mem_of_mem_joinRecent {cap : Nat} {l : List Nat} {x y : Nat} (h : y ∈ joinRecent cap l x) : y ∈ l ∨ y = x := by
  have := List.mem_of_mem_drop h
  simp only [List.mem_append, List.mem_filter, List.mem_singleton] at this
  exact this.imp And.left id

/-! ## The log writer (R172, R176, R178, R180) -/

/-- What closing can do: nothing with no batch open; otherwise the floor falls by 16 and the batch joins the closing list. -/
theorem LogWriter.close_cases (l : LogWriter) (bus : Bus) :
    (l.batch = none ∧ l.close bus = (l, bus)) ∨
    (∃ b, l.batch = some b ∧
      (l.close bus).1 = { l with
        floor := l.floor - 16
        batch := none
        closing := l.closing ++
          [⟨b.first, b.number, b.firstSeq, b.count, b.check, l.floor - 16, b.inFlight, b.inFlight == 0⟩] }) := by
  unfold LogWriter.close
  split
  · exact .inl ⟨‹_›, rfl⟩
  · exact .inr ⟨_, ‹_›, rfl⟩

/-- A log that is not OPEN withholds (R173). -/
theorem LogWriter.take_not_open (l : LogWriter) (bus : Bus) (house : Nat) (r : Record) (h : l.state ≠ .open) :
    l.take bus house r = (l.withhold, bus) := by
  unfold LogWriter.take
  cases hs : l.state
  · exact absurd hs h
  · rfl
  · rfl

/-- A record that does not fit: it is withheld, the open batch closes, and the log is FULL (R180). -/
theorem LogWriter.take_full (l : LogWriter) (bus : Bus) (house : Nat) (r : Record) (h : l.state = .open)
    (hf : l.fits = false) : l.take bus house r = ({ (l.withhold.close bus).1 with state := .full }, (l.withhold.close bus).2) := by
  simp [LogWriter.take, h, hf]

/-- A record that fits is written (R176). -/
theorem LogWriter.take_fits (l : LogWriter) (bus : Bus) (house : Nat) (r : Record) (h : l.state = .open)
    (hf : l.fits = true) : l.take bus house r = l.append bus house r := by
  simp [LogWriter.take, h, hf]

/-- A record handed to the part's log while it runs is the log writer's to take; while it is transparent none is taken. -/
theorem State.record_log (s : State) (r : Record) :
    (s.record r).log = if s.boot = .running then (s.log.take s.bus s.house r).1 else s.log := by
  unfold State.record
  split <;> rfl

theorem State.record_bus (s : State) (r : Record) :
    (s.record r).bus = if s.boot = .running then (s.log.take s.bus s.house r).2 else s.bus := by
  unfold State.record
  split <;> rfl

end Sys2Proof.Machine
end

