-- ==== Sys2Proof/Laws/Frames.lean ====
section
/-! SUPPORT. What the channel operations leave alone. `State.shell` is the state with the arbiter, the log, the channels, the clips
and the windows taken out; an operation that keeps the shell touches nothing else. -/

namespace Sys2Proof.Machine

/-- The state with the arbiter, the log, the channels, the clips and the windows put at their reset values. -/
def State.shell (s : State) : State :=
  { s with
    bus := State.reset.bus
    log := State.reset.log
    channels := State.reset.channels
    clips := State.reset.clips
    windows := State.reset.windows }

/-- Doing something for each item of a list keeps what doing it for one item keeps. -/
theorem foldl_keeps {α β : Type} (g : State → β) (f : State → α → State) (h : ∀ s x, g (f s x) = g s) (l : List α)
    (s : State) : g (l.foldl f s) = g s := by
  induction l generalizing s with
  | nil => rfl
  | cons x xs ih => simp [ih, h]

@[simp] theorem State.mapChan_shell (s : State) (c : Fin 32) (f : Channel → Channel) : (s.mapChan c f).shell = s.shell := rfl
@[simp] theorem State.mapClip_shell (s : State) (n : Fin 64) (f : Clip → Clip) : (s.mapClip n f).shell = s.shell := rfl
@[simp] theorem State.setWindow_shell (s : State) (w : Fin 48) (x : Option Window) : (s.setWindow w x).shell = s.shell := rfl
@[simp] theorem State.record_shell (s : State) (r : Record) : (s.record r).shell = s.shell := rfl
@[simp] theorem State.completeTxn_shell (s : State) (id : Nat) : (s.completeTxn id).shell = s.shell := rfl
@[simp] theorem State.placeCursor_shell (s : State) (c : Fin 32) (f : Fin 6) (a : Anchor) :
    (s.placeCursor c f a).shell = s.shell := rfl

@[simp] theorem State.leaveClip_shell (s : State) (c : Fin 32) (w : ClipEndReason) : (s.leaveClip c w).shell = s.shell := by
  unfold State.leaveClip; split <;> simp

@[simp] theorem State.endAvail_shell (s : State) (c : Fin 32) (w : AvailEndReason) (p : Pts) :
    (s.endAvail c w p).shell = s.shell := by
  unfold State.endAvail; split <;> simp

@[simp] theorem State.abandon_shell (s : State) (c : Fin 32) (w : ClipEndReason) (v : AvailEndReason) :
    (s.abandon c w v).shell = s.shell := by
  simp [State.abandon]

@[simp] theorem State.startClip_shell (s : State) (c : Fin 32) (n : Fin 64) (p : Pts) : (s.startClip c n p).shell = s.shell := rfl

@[simp] theorem State.recordClipStart_shell (s : State) (c : Fin 32) (n : Fin 64) (p : Pts) :
    (s.recordClipStart c n p).shell = s.shell := rfl

@[simp] theorem State.retire_shell (s : State) (c : Fin 32) (e : AvailEvent) (w : MissReason) (v : Nat) :
    (s.retire c e w v).shell = s.shell := rfl

@[simp] theorem State.retireDue_shell (c : Fin 32) (n : Pts) (w : MissReason) (t : Option Nat) (k : Nat) (s : State) :
    (State.retireDue c n w t k s).shell = s.shell := by
  induction k generalizing s with
  | zero => rfl
  | succ k ih =>
    unfold State.retireDue
    split
    · rfl
    · split <;> simp [ih]

@[simp] theorem State.retireAllDue_shell (s : State) (c : Fin 32) (n : Pts) (w : MissReason) :
    (s.retireAllDue c n w).shell = s.shell := by
  simp [State.retireAllDue]

@[simp] theorem State.overlapTest_shell (s : State) (c : Fin 32) (n : Pts) : (s.overlapTest c n).shell = s.shell := by
  simp [State.overlapTest]

@[simp] theorem State.removeWindow_shell (s : State) (id : Fin 48) (w : Window) (r : WindowEndReason) :
    (s.removeWindow id w r).shell = s.shell := rfl

@[simp] theorem State.recordWindowStart_shell (s : State) (c : Fin 32) (id : Fin 48) (p w : WindowStartReason) :
    (s.recordWindowStart c id p w).shell = s.shell := by
  simp only [State.recordWindowStart]; split <;> simp

@[simp] theorem State.showWindow_shell (s : State) (id : Fin 48) (w : Window) (a : Anchor) :
    (s.showWindow id w a).shell = s.shell := rfl

@[simp] theorem State.spliceOut_shell (s : State) (c : Fin 32) (e : AvailEvent) (n : Pts) :
    (s.spliceOut c e n).shell = s.shell := by
  simp [State.spliceOut]

@[simp] theorem State.availTestLoop_shell (c : Fin 32) (n : Pts) (k : Nat) (s : State) :
    (State.availTestLoop c n k s).shell = s.shell := by
  induction k generalizing s with
  | zero => rfl
  | succ k ih =>
    unfold State.availTestLoop
    split
    · rfl
    · repeat' split
      all_goals simp [ih]

@[simp] theorem State.availTest_shell (s : State) (c : Fin 32) (n : Pts) : (s.availTest c n).shell = s.shell := by
  simp [State.availTest]

@[simp] theorem State.availTestInNetwork_shell (s : State) (c : Fin 32) (n : Pts) :
    (s.availTestInNetwork c n).shell = s.shell := by
  unfold State.availTestInNetwork; split <;> simp

@[simp] theorem State.startWindow_shell (s : State) (c : Fin 32) (id : Fin 48) (w : Window) (n : Pts) :
    (s.startWindow c id w n).shell = s.shell := by
  simp [State.startWindow]

@[simp] theorem State.windowTestLoop_shell (c : Fin 32) (n : Pts) (k : Nat) (s : State) :
    (State.windowTestLoop c n k s).shell = s.shell := by
  induction k generalizing s with
  | zero => rfl
  | succ k ih =>
    unfold State.windowTestLoop
    repeat' split
    all_goals simp [ih]

@[simp] theorem State.networkChecks_shell (s : State) (c : Fin 32) (n : Pts) : (s.networkChecks c n).shell = s.shell := by
  simp [State.networkChecks, State.windowTest]

@[simp] theorem State.returnToNetwork_shell (s : State) (c : Fin 32) : (s.returnToNetwork c).shell = s.shell := rfl

@[simp] theorem State.insertChecks_shell (s : State) (c : Fin 32) (n : Pts) : (s.insertChecks c n).shell = s.shell := by
  unfold State.insertChecks
  repeat' split
  all_goals simp

@[simp] theorem State.substChecks_shell (s : State) (c : Fin 32) (n : Pts) : (s.substChecks c n).shell = s.shell := by
  unfold State.substChecks
  repeat' split
  all_goals simp

@[simp] theorem State.alertChecks_shell (s : State) (c : Fin 32) (n : Pts) : (s.alertChecks c n).shell = s.shell := by
  simp only [State.alertChecks]
  repeat' split
  all_goals simp

/-- The checks of a network entry cell touch the arbiter, the log, the channels, the clips and the windows alone. -/
@[simp] theorem State.entryChecks_shell (s : State) (c : Fin 32) (n : Pts) : (s.entryChecks c n).shell = s.shell := by
  unfold State.entryChecks
  split <;> simp

/-! ## Channels taken into ALERT and out of it -/

@[simp] theorem State.suspendWindow_shell (s : State) (c : Fin 32) : (s.suspendWindow c).shell = s.shell := by
  unfold State.suspendWindow
  repeat' split
  all_goals simp

@[simp] theorem State.beforeAlert_shell (s : State) (c : Fin 32) : (s.beforeAlert c).shell = s.shell := by
  unfold State.beforeAlert
  split <;> simp

@[simp] theorem State.takeIntoAlert_shell (s : State) (c : Fin 32) (f : Fin 2) : (s.takeIntoAlert c f).shell = s.shell := by
  simp [State.takeIntoAlert]

@[simp] theorem State.leaveAlert_shell (s : State) (c : Fin 32) : (s.leaveAlert c).shell = s.shell := by
  unfold State.leaveAlert
  repeat' split
  all_goals simp

@[simp] theorem State.forEnabled_shell (s : State) (m : ChannelMask) (f : State → Fin 32 → State)
    (h : ∀ s c, (f s c).shell = s.shell) : (s.forEnabled m f).shell = s.shell := by
  refine foldl_keeps State.shell _ (fun s c => ?_) _ s
  split
  · exact h s c
  · rfl

@[simp] theorem State.handoverChannel_shell (o n : AlertContext) (m : ChannelMask) (s : State) (c : Fin 32) :
    (State.handoverChannel o n m s c).shell = s.shell := by
  unfold State.handoverChannel
  repeat' split
  all_goals simp

/-! ## The retirement and the removals of a disable -/

@[simp] theorem State.retireQueue_shell (s : State) (c : Fin 32) : (s.retireQueue c).shell = s.shell :=
  foldl_keeps State.shell _ (fun s _ => State.retire_shell s ..) _ s

@[simp] theorem State.removeWindows_shell (s : State) (c : Fin 32) : (s.removeWindows c).shell = s.shell := by
  refine foldl_keeps State.shell _ (fun s id => ?_) _ s
  split <;> simp

@[simp] theorem State.disableChannel_shell (s : State) (c : Fin 32) : (s.disableChannel c).shell = s.shell := by
  simp only [State.disableChannel]
  split <;> simp

@[simp] theorem State.enableChannel_shell (s : State) (c : Fin 32) (g : ChannelConfig) :
    (s.enableChannel c g).shell = s.shell := by
  simp only [State.enableChannel]
  repeat' split
  all_goals simp [State.enableIntoAlert]

@[simp] theorem State.changeVideo_shell (s : State) (c : Fin 32) : (s.changeVideo c).shell = s.shell := by
  simp only [State.changeVideo]
  split <;> simp

@[simp] theorem State.reconfigure_shell (s : State) (c : Fin 32) (g : ChannelConfig) : (s.reconfigure c g).shell = s.shell := by
  simp only [State.reconfigure]
  split <;> simp

end Sys2Proof.Machine
end

