-- ==== Sys2Proof/Laws/Ingest.lean ====
section
/-! SUPPORT. The whole cells of a ring write: those that the map holds whole, in no other number (R26). -/

namespace Sys2Proof.Machine

theorem allEnabled_iff (enables : List Bool) (off : Nat) :
    allEnabled enables off = true ↔ ∀ k < 192, enables[off + k]? = some true := by
  have h (k : Nat) (hk : k < 192) : (slice enables off 192)[k]? = enables[off + k]? := by
    simp [slice, hk]
  constructor
  · intro e k hk
    simp only [allEnabled, Bool.and_eq_true, decide_eq_true_eq, List.all_eq_true] at e
    rw [← h k hk]
    have hl : k < (slice enables off 192).length := by omega
    rw [List.getElem?_eq_getElem hl]
    exact congrArg some (e.2 _ (List.getElem_mem hl))
  · intro e
    have len : (slice enables off 192).length = 192 := by
      have := e 191 (by omega)
      have lt : off + 191 < enables.length := by
        by_contra c
        rw [List.getElem?_eq_none (by omega)] at this
        cases this
      simp [slice]
      omega
    simp only [allEnabled, Bool.and_eq_true, decide_eq_true_eq, List.all_eq_true]
    refine ⟨len, fun x hx => ?_⟩
    obtain ⟨k, hk, rfl⟩ := List.getElem_of_mem hx
    have := (h k (by omega)).trans (e k (by omega))
    rw [List.getElem?_eq_getElem hk] at this
    simpa using this

/-- The whole cells of one ring. A write of at most 512 bytes can reach the first two cells at or after its address alone. -/
theorem Ring.mem_wholeCells (r : Ring) (ring : RingOf) (addr : Nat) (data : List Byte) (enables : List Bool)
    (short : enables.length ≤ 512) (y : WholeCell) :
    y ∈ r.wholeCells ring addr data enables ↔
      y.ring = ring ∧ y.index < r.cells ∧ y.addr = r.base + 192 * y.index ∧ addr ≤ y.addr ∧
        (∀ k < 192, enables[y.addr - addr + k]? = some true) ∧ y.bytes = (data.drop (y.addr - addr)).take 192 := by
  obtain ⟨a, ring', i, bytes⟩ := y
  simp only [Ring.wholeCells, List.mem_filterMap, List.mem_cons, List.not_mem_nil, or_false]
  constructor
  · rintro ⟨j, -, h⟩
    split at h
    · rename_i g
      simp only [Bool.and_eq_true, decide_eq_true_eq] at g
      cases h
      exact ⟨rfl, g.1.1, rfl, g.1.2, (allEnabled_iff _ _).1 g.2, rfl⟩
    · cases h
  · rintro ⟨rfl, hi, rfl, ha, he, rfl⟩
    have last : r.base + 192 * i - addr + 191 < enables.length := by
      by_contra c
      have := he 191 (by omega)
      rw [List.getElem?_eq_none (by omega)] at this
      cases this
    refine ⟨i, ?_, ?_⟩
    · unfold Ring.firstIndex
      omega
    · rw [if_pos]
      · rfl
      · simp only [Bool.and_eq_true, decide_eq_true_eq]
        exact ⟨⟨hi, ha⟩, (allEnabled_iff _ _).2 he⟩

theorem mem_insertCell (x y : WholeCell) (l : List WholeCell) : y ∈ insertCell x l ↔ y = x ∨ y ∈ l := by
  induction l with
  | nil => simp [insertCell]
  | cons z l ih =>
    unfold insertCell
    split
    · simp
    · simp only [List.mem_cons, ih]
      tauto

theorem mem_sortCells (l acc : List WholeCell) (y : WholeCell) :
    y ∈ l.foldl (fun l x => insertCell x l) acc ↔ y ∈ l ∨ y ∈ acc := by
  induction l generalizing acc with
  | nil => simp
  | cons x l ih =>
    simp only [List.foldl_cons, ih, mem_insertCell, List.mem_cons]
    tauto

/-- The whole cells of a write are exactly those that the map holds whole (R26). -/
theorem RegionMap.mem_wholeCells (m : RegionMap) (x : Txn) (short : x.enables.length ≤ 512) (y : WholeCell) :
    y ∈ m.wholeCells x.addr x.data x.enables ↔ m.holdsWhole x y := by
  simp only [RegionMap.wholeCells, mem_sortCells, List.not_mem_nil, or_false, List.mem_append, List.mem_flatMap,
    List.mem_finRange, true_and, RegionMap.holdsWhole]
  constructor
  · rintro (⟨c, h⟩ | ⟨f, h⟩)
    · split at h
      · rename_i r hr
        rw [Ring.mem_wholeCells _ _ _ _ _ short] at h
        exact ⟨⟨r, .inl ⟨c, h.1, hr⟩, h.2.1, h.2.2.1⟩, h.2.2.2⟩
      · cases h
    · rw [Ring.mem_wholeCells _ _ _ _ _ short] at h
      exact ⟨⟨_, .inr ⟨f, h.1, rfl⟩, h.2.1, h.2.2.1⟩, h.2.2.2⟩
  · rintro ⟨⟨r, ⟨c, hc, hr⟩ | ⟨f, hf, rfl⟩, hi, ha⟩, rest⟩
    · refine .inl ⟨c, ?_⟩
      rw [hr]
      exact (Ring.mem_wholeCells _ _ _ _ _ short _).2 ⟨hc, hi, ha, rest⟩
    · exact .inr ⟨f, (Ring.mem_wholeCells _ _ _ _ _ short _).2 ⟨hf, hi, ha, rest⟩⟩

end Sys2Proof.Machine
end

