-- ==== Sys2Proof/Laws/Outer.lean ====
section
/-! SUPPORT. What cues, ring writes, alerts and output reads leave alone. `State.outer` is the shell with the alerts, the bindings
and the feeds taken out as well; `State.hull` leaves out the in-flight list and the responses returned too. -/

namespace Sys2Proof.Machine

/-- The shell with the alert controller, the bindings and the feeds at their reset values. -/
def State.outer (s : State) : State :=
  { s.shell with alerts := State.reset.alerts, bindings := State.reset.bindings, feeds := State.reset.feeds }

/-- The outer state with no in-flight list and no responses. -/
def State.hull (s : State) : State :=
  { s.outer with entries := [], up := [] }

theorem outer_of_shell {s t : State} (h : s.shell = t.shell) : s.outer = t.outer := by
  have := congrArg State.outer h
  exact this

theorem hull_of_outer {s t : State} (h : s.outer = t.outer) : s.hull = t.hull := by
  have := congrArg State.hull h
  exact this

theorem hull_of_shell {s t : State} (h : s.shell = t.shell) : s.hull = t.hull := by
  have := congrArg State.hull h
  exact this

theorem entries_of_outer {s t : State} (h : s.outer = t.outer) : s.entries = t.entries := by
  have := congrArg State.entries h
  exact this

theorem entries_of_shell {s t : State} (h : s.shell = t.shell) : s.entries = t.entries := by
  have := congrArg State.entries h
  exact this

/-! ## Cues (chapter 5) -/

@[simp] theorem State.mapChan_outer (s : State) (c : Fin 32) (f : Channel → Channel) : (s.mapChan c f).outer = s.outer := rfl
@[simp] theorem State.record_outer (s : State) (r : Record) : (s.record r).outer = s.outer := rfl
@[simp] theorem State.setBindings_outer (s : State) (c : Fin 32) (t : Vector (Option Binding) 8) :
    (s.setBindings c t).outer = s.outer := rfl
@[simp] theorem State.mapFeed_outer (s : State) (n : Fin 6) (f : FeedTracker → FeedTracker) :
    (s.mapFeed n f).outer = s.outer := rfl
@[simp] theorem State.retire_outer (s : State) (c : Fin 32) (e : AvailEvent) (w : MissReason) (v : Nat) :
    (s.retire c e w v).outer = s.outer := rfl

@[simp] theorem State.enqueue_outer (s : State) (c : Fin 32) (e : AvailEvent) : (s.enqueue c e).outer = s.outer := by
  simp only [State.enqueue]; split <;> simp

@[simp] theorem State.outCue_outer (s : State) (c : Fin 32) (q : Cue) (t : Pts) : (s.outCue c q t).outer = s.outer := by
  simp only [State.outCue]
  repeat' split
  all_goals simp [State.countDuplicate]

@[simp] theorem State.unmatchedCue_outer (s : State) (c : Fin 32) (e : Nat) : (s.unmatchedCue c e).outer = s.outer := by
  unfold State.unmatchedCue; split <;> simp [State.countDuplicate, State.countBadCue]

@[simp] theorem State.inCue_outer (s : State) (c : Fin 32) (q : Cue) (t : Pts) : (s.inCue c q t).outer = s.outer := by
  simp only [State.inCue]
  repeat' split
  all_goals simp

@[simp] theorem State.cancelCue_outer (s : State) (c : Fin 32) (q : Cue) : (s.cancelCue c q).outer = s.outer := by
  simp only [State.cancelCue]
  repeat' split
  all_goals simp [State.countBadCue]

@[simp] theorem State.takeCue_outer (s : State) (c : Fin 32) (q : Cue) : (s.takeCue c q).outer = s.outer := by
  unfold State.takeCue
  repeat' split
  all_goals simp [State.countBadCue]

@[simp] theorem State.cueCell_outer (s : State) (c : Fin 32) (l : List Byte) : (s.cueCell c l).outer = s.outer := by
  unfold State.cueCell
  split <;> simp [State.countBadCue]

/-! ## Ring writes (section 2.3) -/

@[simp] theorem State.clockSample_outer (s : State) (c : Fin 32) (p : Nat) (t : Stamp) :
    (s.clockSample c p t).outer = s.outer := by
  simp only [State.clockSample]
  repeat' split
  all_goals simp

@[simp] theorem State.videoIngest_outer (s : State) (c : Fin 32) (l : List Byte) : (s.videoIngest c l).outer = s.outer := by
  simp only [State.videoIngest]
  repeat' split
  all_goals simp

@[simp] theorem State.takeChannelCell_outer (s : State) (c : Fin 32) (l : List Byte) :
    (s.takeChannelCell c l).outer = s.outer := by
  simp only [State.takeChannelCell]
  repeat' split
  all_goals simp

/-- A ring write that is reported changes channels, feeds, bindings, the log and the arbiter alone (R26). -/
@[simp] theorem State.reportRingWrite_outer (s : State) (a : Nat) (d : List Byte) (e : List Bool) :
    (s.reportRingWrite a d e).outer = s.outer := by
  unfold State.reportRingWrite
  split
  · rfl
  · refine foldl_keeps State.outer _ (fun s x => ?_) _ s
    unfold State.takeWholeCell State.takeFeedCell
    split <;> simp

/-! ## The alert controller (chapter 9) -/

@[simp] theorem State.activate_outer (s : State) (x : AlertContext) : (s.activate x).outer = s.outer := rfl

@[simp] theorem State.recordAlertEnd_outer (s : State) (x : AlertContext) (w : AlertEndReason) :
    (s.recordAlertEnd x w).outer = s.outer := rfl

@[simp] theorem State.noteAlert_outer (s : State) (a : Nat) : (s.noteAlert a).outer = s.outer := rfl

@[simp] theorem State.activateFresh_outer (s : State) (x : AlertContext) : (s.activateFresh x).outer = s.outer := by
  simp only [State.activateFresh]
  exact (outer_of_shell (State.forEnabled_shell _ _ _ fun s c => by simp)).trans (by simp)

@[simp] theorem State.handover_outer (s : State) (o n : AlertContext) (w : AlertEndReason) :
    (s.handover o n w).outer = s.outer := by
  simp only [State.handover]
  exact (foldl_keeps State.outer _ (fun s c => outer_of_shell (by simp)) _ _).trans (by simp)

@[simp] theorem State.endCurrent_outer (s : State) (x : AlertContext) (w : AlertEndReason) :
    (s.endCurrent x w).outer = s.outer := by
  simp only [State.endCurrent]
  exact (outer_of_shell (State.forEnabled_shell _ _ _ fun s c => by simp)).trans rfl

@[simp] theorem State.handToHead_outer (s : State) (o h : AlertContext) (l : List AlertContext) (w : AlertEndReason) :
    (s.handToHead o h l w).outer = s.outer := by
  simp only [State.handToHead, State.handover_outer]; rfl

@[simp] theorem State.queueAlert_outer (s : State) (x : AlertContext) : (s.queueAlert x).outer = s.outer := rfl

@[simp] theorem State.arriveBehind_outer (s : State) (x : AlertContext) : (s.arriveBehind x).1.outer = s.outer := by
  simp only [State.arriveBehind]
  split
  · rfl
  · split
    · dsimp only
      split <;> rfl
    · rfl

/-- An arrival changes the alert controller, the channels, the clips, the windows, the log and the arbiter alone. -/
@[simp] theorem State.arrive_outer (s : State) (a : Arrival) : (s.arrive a).1.outer = s.outer := by
  simp only [State.arrive]
  split
  · rfl
  · split
    · simp
    · split <;> simp

@[simp] theorem State.flushQueue_outer (s : State) : s.flushQueue.outer = s.outer := by
  simp only [State.flushQueue]
  refine (foldl_keeps State.outer (fun s x => s.recordAlertEnd x .dropped) (fun s x => by simp) _ _).trans ?_
  rfl

@[simp] theorem State.expire_outer (s : State) (x : AlertContext) : (s.expire x).outer = s.outer := by
  unfold State.expire
  split
  · simp
  · rfl
  · simp

/-! ## Output reads (sections 3.3 and 3.4) -/

@[simp] theorem State.answer_hull (s : State) (id : Nat) (r : UpResult) : (s.answer id r).hull = s.hull := by
  unfold State.answer; split <;> rfl

@[simp] theorem State.mapChan_hull (s : State) (c : Fin 32) (f : Channel → Channel) : (s.mapChan c f).hull = s.hull := rfl

@[simp] theorem State.record_hull (s : State) (r : Record) : (s.record r).hull = s.hull := rfl

@[simp] theorem State.completeTxn_hull (s : State) (id : Nat) : (s.completeTxn id).hull = s.hull := rfl

@[simp] theorem State.returnToNetwork_hull (s : State) (c : Fin 32) : (s.returnToNetwork c).hull = s.hull := rfl

@[simp] theorem State.placeCursor_hull (s : State) (c : Fin 32) (f : Fin 6) (a : Anchor) : (s.placeCursor c f a).hull = s.hull :=
  rfl

@[simp] theorem State.answerNull_hull (s : State) (c : Fin 32) (e : Nat) (n : List Byte) :
    (s.answerNull c e n).hull = s.hull := by
  simp [State.answerNull]

@[simp] theorem State.answerCell_hull (s : State) (e : Nat) (l : List Byte) : (s.answerCell e l).hull = s.hull := by
  simp [State.answerCell]

@[simp] theorem State.emitNetwork_hull (s : State) (c : Fin 32) (e : Nat) (n : List Byte) :
    (s.emitNetwork c e n).hull = s.hull := by
  simp only [State.emitNetwork]
  repeat' split
  all_goals simp

@[simp] theorem State.requestSource_hull (s : State) (c : Fin 32) (e : Nat) (n : List Byte) (a : Nat) (k : SourceKind)
    (r : Source) : (s.requestSource c e n a k r).hull = s.hull := rfl

@[simp] theorem State.requestClip_hull (s : State) (c : Fin 32) (e : Nat) (n : List Byte) (k : Fin 64) (i : Nat) :
    (s.requestClip c e n k i).hull = s.hull := rfl

@[simp] theorem State.requestFeed_hull (s : State) (c : Fin 32) (e : Nat) (n : List Byte) (f : Fin 6) (a : Stamp) :
    (s.requestFeed c e n f a).hull = s.hull := rfl

@[simp] theorem State.supplyPlaced_hull (s : State) (c : Fin 32) (e : Nat) (n : List Byte) (f : Fin 6) :
    (s.supplyPlaced c e n f).hull = s.hull := by
  unfold State.supplyPlaced; split <;> simp

@[simp] theorem State.slip_hull (s : State) (c : Fin 32) (f : Fin 6) (k : Nat) : (s.slip c f k).hull = s.hull := rfl

@[simp] theorem State.supplyFeed_hull (s : State) (c : Fin 32) (e : Nat) (n : List Byte) (f : Fin 6) (a : Option Stamp) :
    (s.supplyFeed c e n f a).hull = s.hull := by
  simp only [State.supplyFeed]
  repeat' split
  all_goals simp

@[simp] theorem State.returnWaitRead_hull (s : State) (c : Fin 32) (e : Nat) (n : List Byte) :
    (s.returnWaitRead c e n).hull = s.hull := by
  simp only [State.returnWaitRead]
  split <;> simp

@[simp] theorem State.supply_hull (s : State) (c : Fin 32) (e : Nat) (n : List Byte) : (s.supply c e n).hull = s.hull := by
  unfold State.supply
  repeat' split
  all_goals simp

@[simp] theorem State.networkChecks_hull (s : State) (c : Fin 32) (n : Pts) : (s.networkChecks c n).hull = s.hull :=
  hull_of_shell (by simp)

@[simp] theorem State.entryChecks_hull (s : State) (c : Fin 32) (n : Pts) : (s.entryChecks c n).hull = s.hull :=
  hull_of_shell (by simp)

@[simp] theorem State.leaveClip_hull (s : State) (c : Fin 32) (w : ClipEndReason) : (s.leaveClip c w).hull = s.hull :=
  hull_of_shell (by simp)

@[simp] theorem State.endAvail_hull (s : State) (c : Fin 32) (w : AvailEndReason) (p : Pts) :
    (s.endAvail c w p).hull = s.hull :=
  hull_of_shell (by simp)

@[simp] theorem State.abandon_hull (s : State) (c : Fin 32) (w : ClipEndReason) (v : AvailEndReason) :
    (s.abandon c w v).hull = s.hull :=
  hull_of_shell (by simp)

@[simp] theorem State.startClip_hull (s : State) (c : Fin 32) (n : Fin 64) (p : Pts) : (s.startClip c n p).hull = s.hull := rfl

@[simp] theorem State.recordClipStart_hull (s : State) (c : Fin 32) (n : Fin 64) (p : Pts) :
    (s.recordClipStart c n p).hull = s.hull := rfl

@[simp] theorem State.podEnd_hull (s : State) (c : Fin 32) (a : CurrentAvail) (e : Nat) (n : List Byte) (p : Option Pts) :
    (s.podEnd c a e n p).hull = s.hull := by
  simp only [State.podEnd]
  split <;> simp

@[simp] theorem State.clipExhausted_hull (s : State) (c : Fin 32) (e : Nat) (n : List Byte) (p : Option Pts) :
    (s.clipExhausted c e n p).hull = s.hull := by
  simp only [State.clipExhausted]
  repeat' split
  all_goals simp

@[simp] theorem State.produce_hull (s : State) (c : Fin 32) (e : Nat) (n : List Byte) (p : Option Pts) :
    (s.produce c e n p).hull = s.hull := by
  unfold State.produce
  repeat' split
  all_goals simp

@[simp] theorem State.takeCell_hull (s : State) (c : Fin 32) (e : Nat) (n : List Byte) : (s.takeCell c e n).hull = s.hull := by
  simp only [State.takeCell]
  repeat' split
  all_goals simp

/-- The taking of a read touches the in-flight list, the responses, the arbiter, the log, the channels, the clips and the windows
alone. -/
@[simp] theorem State.takeRead_hull (s : State) (c : Fin 32) : (s.takeRead c).hull = s.hull := by
  simp only [State.takeRead]
  repeat' split
  all_goals simp

@[simp] theorem State.answerSource_hull (s : State) (c : Fin 32) (r : ReadInHand) (o : Option Role) (l : List Byte) :
    (s.answerSource c r o l).hull = s.hull := by
  unfold State.answerSource
  split <;> simp

@[simp] theorem State.clipCell_hull (s : State) (c : Fin 32) (n : Fin 64) (r : ReadInHand) (a : Answer) :
    (s.clipCell c n r a).hull = s.hull := by
  simp only [State.clipCell]
  repeat' split
  all_goals simp

@[simp] theorem State.feedCell_hull (s : State) (c : Fin 32) (f : Fin 6) (r : ReadInHand) (a : Answer) :
    (s.feedCell c f r a).hull = s.hull := by
  simp only [State.feedCell]
  repeat' split
  all_goals simp

end Sys2Proof.Machine
end

