-- ==== Sys2Proof/Laws/Receiver.lean ====
section
/-! SUPPORT. What the receiver's reading of its line can do: the moment its low time counts from, the edges it records, and what a
falling edge is to it. -/

namespace Sys2Proof.Machine

/-- R140: low time counts from the falling edge, but not from before the receiver began reading. -/
theorem Receiver.lowFrom_eq {r : Receiver} {began : Nat} (h : r.readingFrom = some began) (fall : Nat) :
    r.lowFrom fall = max fall began := by
  simp [Receiver.lowFrom, h]

/-- R141: every recorded edge follows the test of the start edge. -/
theorem recordedEdges_after {w : Wave} {n : Nat} {e : Nat × Bool} (h : e ∈ recordedEdges w n) : sampledAt w n 0 < e.1 :=
  of_decide_eq_true (List.mem_filter.1 h).2

/-- R141: the fourth falling edge is a recorded one, within 8 nominal periods of the start edge. -/
theorem fourthFall_mem {w : Wave} {n t : Nat} (h : fourthFall w n = some t) :
    (t, false) ∈ recordedEdges w n ∧ t ≤ w.fall + 8 * n := by
  unfold fourthFall at h
  split at h
  case h_1 e he =>
    obtain ⟨t', b⟩ := e
    obtain ⟨hm, hb⟩ := List.mem_filter.1 (List.mem_of_getElem? he)
    split at h
    case isTrue hl =>
      cases h
      cases b
      · exact ⟨hm, hl⟩
      · cases hb
    case isFalse => cases h
  case h_2 => cases h

/-- R143: each of the five edges before the fourth falling edge is there, rises or falls in its turn, and stands in its place. -/
theorem edgesInPlace_iff (w : Wave) (n m : Nat) : edgesInPlace w n m = true ↔
    ∀ k < 5, ∃ e, (recordedEdges w n)[k]? = some e ∧ e.2 = (k % 2 == 0) ∧ timeGap e.1 (w.fall + (k + 2) * m) ≤ m / 2 := by
  simp [edgesInPlace, Option.any_eq_true]

/-- R139, R152: what becomes of the state at a falling edge that the receiver may wait for. -/
theorem State.onStartEdge_cases (s : State) (w : Wave) (p : Nat) (f : State → State) :
    s.onStartEdge w p f = s ∨ (∃ idle, s.receiver.idleFrom = some idle ∧ idle + 20 * p < w.fall ∧
      s.onStartEdge w p f = s.idleExpired idle p) ∨
    ((sampleBit w p 0).value = true ∧ s.onStartEdge w p f = s.atTime (sampledAt w p 0)) ∨
    ((sampleBit w p 0).value = false ∧ s.onStartEdge w p f = f s) := by
  unfold State.onStartEdge
  split
  · exact .inl rfl
  case h_2 idle hi =>
    unfold startTest
    by_cases h₁ : w.fall ≤ idle
    · simp [h₁]
    · by_cases h₂ : idle + 20 * p < w.fall
      · exact .inr (.inl ⟨idle, hi, h₂, by simp [h₁, h₂]⟩)
      · cases h₃ : (sampleBit w p 0).value
        · exact .inr (.inr (.inr ⟨rfl, by simp [h₁, h₂]⟩))
        · exact .inr (.inr (.inl ⟨rfl, by simp [h₁, h₂]⟩))

end Sys2Proof.Machine
end

