-- ==== Sys2Proof/Laws/Records.lean ====
section
/-! SUPPORT. The fields of a record's 32 bytes, and of the records that an alert makes. -/

namespace Sys2Proof.Machine

/-- The bytes of a number give the number back, as far as they reach. -/
theorem leNat_leBytes (n v : Nat) : leNat (leBytes n v) = v % 256 ^ n := by
  induction n generalizing v with
  | zero => simp [leBytes, leNat, Nat.mod_one]
  | succ n ih =>
    simp only [leBytes, leNat, ih, BitVec.toNat_ofNat, Nat.pow_succ, Nat.mul_comm (256 ^ n)]
    exact (Nat.mod_mul).symm

theorem RecordKind.code_eq (k : RecordKind) : k.code = 1 + recordKinds.idxOf k := by
  cases k <;> rfl

/-- Section 10.2: the bytes the log writer writes for a record have the record's fields in their places. -/
theorem Record.bytes_isLogRecord (r : Record) (house sequence batch position : Nat) :
    isLogRecord (r.bytes house sequence batch position) r house sequence batch position := by
  have k : r.kind.code % 256 ^ 1 = 1 + recordKinds.idxOf r.kind := by
    rw [← r.kind.code_eq]
    cases r.kind <;> rfl
  have high : (r.first / 2 ^ 32 % 2 + 2 * (r.second / 2 ^ 32 % 2)) % 256 ^ 1 = _ := Nat.mod_eq_of_lt (by omega)
  exact ⟨rfl, (leNat_leBytes 1 _).trans k, leNat_leBytes 1 _, leNat_leBytes 1 _, (leNat_leBytes 1 _).trans high, leNat_leBytes 8 _,
    leNat_leBytes 4 _, leNat_leBytes 4 _, leNat_leBytes 4 _, leNat_leBytes 4 _, leNat_leBytes 2 _, leNat_leBytes 1 _,
    leNat_leBytes 1 0⟩

theorem AlertContext.startRecord_eq (x : AlertContext) (channel reason : Nat) :
    x.startRecord channel reason = x.starts channel reason := rfl

theorem AlertContext.endRecord_eq (x : AlertContext) (why : AlertEndReason) (house : Nat) :
    x.endRecord why house false = x.ends why.code house := by
  unfold AlertContext.endRecord AlertContext.ends
  cases x.activated <;> cases x.state <;> rfl

end Sys2Proof.Machine
end

