-- ==== Sys2Proof/Laws/Snapshot.lean ====
section
/-! SUPPORT. The words of a snapshot, as Safety.lean lays them out from R190 and R191, give the bytes that the model writes. -/

namespace Sys2Proof.Machine

/-- The bytes of words. -/
def wordBytes (l : List Nat) : List Byte := l.flatMap (leBytes 4)

@[simp] theorem wordBytes_nil : wordBytes [] = [] := rfl
@[simp] theorem wordBytes_cons (a : Nat) (l : List Nat) : wordBytes (a :: l) = snapWord a ++ wordBytes l := rfl
@[simp] theorem wordBytes_append (a b : List Nat) : wordBytes (a ++ b) = wordBytes a ++ wordBytes b := by
  simp [wordBytes]

theorem wordBytes_pair (v : Nat) : wordBytes (wordPair v) = snapPair v := by
  simp [wordPair, wordBytes, snapPair, leBytes, Nat.div_div_eq_div_mul]

theorem wordBytes_absent (n : Nat) : wordBytes (wordsAbsent n) = snapAbsent n := by
  induction n with
  | zero => rfl
  | succ n ih =>
    have h : snapWord 0xFFFFFFFF = List.replicate 4 0xFF#8 := by decide
    rw [wordsAbsent, List.replicate_succ, ← wordsAbsent, wordBytes_cons, ih, h, snapAbsent, snapAbsent,
      ← List.replicate_add, Nat.mul_succ, Nat.add_comm]

theorem wordBytes_or (v : Option Nat) : wordBytes (wordOr v) = snapWord? v := by
  cases v with
  | none => exact wordBytes_absent 1
  | some x => simp [wordOr, snapWord?]

theorem wordBytes_pairOr (v : Option Nat) : wordBytes (wordPairOr v) = snapPair? v := by
  cases v with
  | none => exact wordBytes_absent 2
  | some x => exact wordBytes_pair x

theorem wordBytes_flag (b : Bool) : snapWord (wordFlag b) = snapFlag b := rfl

theorem wordBytes_flatten (l : List (List Nat)) : wordBytes l.flatten = (l.map wordBytes).flatten := by
  induction l with
  | nil => rfl
  | cons a l ih => simp [ih]

theorem wordBytes_flatMap {α : Type} (l : List α) (f : α → List Nat) :
    wordBytes (l.flatMap f) = l.flatMap fun x => wordBytes (f x) := by
  induction l with
  | nil => rfl
  | cons a l ih => simp [ih]

theorem wordBytes_map {α : Type} (l : List α) (f : α → Nat) : wordBytes (l.map f) = l.flatMap fun x => snapWord (f x) := by
  induction l with
  | nil => rfl
  | cons a l ih => simp [ih]

theorem finRange_flatMap {α β : Type} {n : Nat} (v : Vector α n) (f : α → List β) :
    (List.finRange n).flatMap (fun i => f v[i]) = v.toList.flatMap f := by
  have h : v.toList = (List.finRange n).map fun i => v[i] := by
    apply List.ext_getElem <;> simp
  rw [h, List.flatMap_map]

theorem wordBytes_list (places size : Nat) (l : List (List Nat)) :
    wordBytes (wordList places size l) = snapList places size (l.map wordBytes) := by
  simp [wordList, snapList, wordBytes_flatten, wordBytes_absent, List.map_take, Nat.mul_comm]

theorem Source.words_bytes (x : Source) : wordBytes x.words = x.snap := by
  rcases x with _ | ⟨n, i⟩ | ⟨f, _ | a⟩ | _ <;>
    simp [Source.words, Source.snap, wordBytes_absent, snapWord?]

theorem AlertContext.words_bytes (x : AlertContext) : wordBytes x.words = x.snap := by
  have h1 : 1 + [AlertSource.line, .host].idxOf x.source = x.source.code := by cases x.source <;> rfl
  have h2 : 1 + [AlertState.active, .held, .queued].idxOf x.state = x.state.code := by cases x.state <;> rfl
  simp [AlertContext.words, AlertContext.snap, wordBytes_pairOr, wordBytes_or, h1, h2, alertFeed]

theorem AlertContext.expires_eq (x : AlertContext) : x.expires = x.expiry := by
  unfold AlertContext.expires AlertContext.expiry
  cases x.activated <;> cases x.duration <;> rfl

theorem FeedTracker.words_bytes (t : FeedTracker) : wordBytes t.words = t.snap := by
  simp [FeedTracker.words, FeedTracker.snap, wordBytes_or, wordBytes_pairOr, snapPts?, Function.comp_def]

theorem Continuity.words_bytes (r : Continuity) : wordBytes r.words = r.snap := by
  simp [Continuity.words, Continuity.snap, wordBytes_or, wordBytes_flag]

theorem Receiver.words_bytes (r : Receiver) : wordBytes r.words = r.snap := by
  have h : [ReceiverState.waitAttention, .attention, .rateMark, .body, .standby].idxOf r.state = r.state.code := by
    cases r.state <;> rfl
  have word (a b c d : Byte) : snapWord (leNat [a, b, c, d]) = [a, b, c, d] := by
    simp only [snapWord, leBytes, leNat, List.cons.injEq, and_true]
    refine ⟨?_, ?_, ?_, ?_⟩ <;> apply BitVec.eq_of_toNat_eq <;> simp <;> omega
  simp [Receiver.words, Receiver.snap, Receiver.snapBuffer, ReceiverCounts.snap, wordBytes_or, h, word, List.range_succ]

theorem LogWriter.words_bytes (l : LogWriter) : wordBytes l.words = l.snap := by
  have h : 1 + [LogState.open, .full, .stopped].idxOf l.state = l.state.code := by cases l.state <;> rfl
  simp [LogWriter.words, LogWriter.snap, wordBytes_or, wordBytes_pairOr, h, LogWriter.room]

theorem AlertControl.words_bytes (a : AlertControl) : wordBytes a.words = a.snap := by
  have h : [QueueMode.mayEmpty, .holdLast].idxOf a.mode = a.mode.code := by cases a.mode <;> rfl
  have g := finRange_flatMap a.groups fun x => snapWord x.toNat
  simp only [Fin.getElem_fin] at g
  simp only [AlertControl.words, AlertControl.snap]
  cases a.current <;>
    simp [wordBytes_absent, wordBytes_list, wordBytes_map, wordBytes_pairOr, AlertContext.words_bytes, AlertContext.expires_eq,
      Function.comp_def, h, g]

theorem podWords_bytes (pod : List (Fin 64)) : wordBytes (podWords pod) = snapPod pod := by
  simp [podWords, snapPod, wordBytes_list, Function.comp_def]

theorem CurrentAvail.words_bytes (a : CurrentAvail) : wordBytes a.words = a.snap := by
  have h (k : ReturnKind) : [ReturnKind.breakEnd, .cueIn].idxOf k = k.code := by cases k <;> rfl
  simp [CurrentAvail.words, CurrentAvail.snap, wordBytes_pair, wordBytes_pairOr, wordBytes_or, wordBytes_flag, podWords_bytes,
    snapPts?, Function.comp_def, h]

theorem AvailEvent.words_bytes (e : AvailEvent) : wordBytes e.words = e.snap := by
  simp [AvailEvent.words, AvailEvent.snap, wordBytes_pair, wordBytes_pairOr, wordBytes_or, wordBytes_flag, podWords_bytes,
    snapPts?]

theorem State.windowWords_bytes (s : State) (id : Fin 48) : wordBytes (s.windowWords id) = s.snapWindow id := by
  have h (k : WindowState) : [WindowState.scheduled, .active, .suspended].idxOf k = k.code := by cases k <;> rfl
  unfold State.windowWords State.snapWindow
  cases s.window id with
  | none => exact wordBytes_absent 7
  | some w => simp [wordBytes_pair, h]

theorem ClipState.idx (k : ClipState) : [ClipState.free, .queued, .verifying, .ready, .failed].idxOf k = k.code := by
  cases k <;> rfl

theorem Clip.words_bytes (x : Clip) : wordBytes x.words = x.items := by
  have r (k : Role) : [Role.video, .audio1, .audio2, .audio3, .data1, .data2].idxOf k = k.idx := by cases k <;> rfl
  have f (k : ClipFailure) :
      1 + [ClipFailure.badCell, .noEntry, .timing, .noClock, .crcMismatch, .memoryError].idxOf k = k.code := by cases k <;> rfl
  simp [Clip.words, Clip.items, wordBytes_pair, wordBytes_pairOr, wordBytes_or, wordBytes_list, ClipState.idx, snapPts?,
    Function.comp_def, r, f]

theorem ChannelConfig.words_bytes (g : ChannelConfig) : wordBytes g.words = g.snap := by
  have p : [FullPolicy.keep, .earliest].idxOf g.policy = g.policy.snapCode := by cases g.policy <;> rfl
  have h := finRange_flatMap g.roles snapWord?
  simp only [Fin.getElem_fin] at h
  simp [ChannelConfig.words, ChannelConfig.snap, wordBytes_flatMap, wordBytes_or, h, p]

theorem ChannelCounts.words_bytes (c : ChannelCounts) : wordBytes c.words = c.snap := by
  simp [ChannelCounts.words, ChannelCounts.snap]

theorem ChannelState.idx (k : ChannelState) :
    [ChannelState.off, .network, .insert, .subst, .alert, .returnWait].idxOf k = k.code := by
  cases k <;> rfl

theorem ClockStatus.idx (k : ClockStatus) : [ClockStatus.unseen, .unsteady, .steady].idxOf k = k.code := by
  cases k <;> rfl

theorem State.channelWords_bytes (s : State) (c : Fin 32) : wordBytes (s.snapshotWords (.channel c)) = s.channelItems c := by
  have k := finRange_flatMap (s.chan c).continuity Continuity.snap
  have q : wordBytes ∘ AvailEvent.words = AvailEvent.snap := funext AvailEvent.words_bytes
  have w : wordBytes ∘ s.windowWords = s.snapWindow := funext s.windowWords_bytes
  have r : (wordBytes ∘ fun x => [x]) = snapWord := by
    funext x
    simp
  simp only [State.snapshotWords, Channel.words, wordBytes_append, wordBytes_cons, wordBytes_nil, ChannelConfig.words_bytes,
    Source.words_bytes, wordBytes_flatMap, Continuity.words_bytes, wordBytes_or, wordBytes_pair, wordBytes_pairOr, wordBytes_list,
    wordBytes_flag, ChannelCounts.words_bytes, List.map_map, List.append_nil, List.append_assoc, k, q, w, r,
    ChannelState.idx, ClockStatus.idx]
  dsimp only [State.channelItems]
  cases (s.chan c).avail <;>
    simp only [Option.map_none, Option.map_some, Option.getD_none, Option.getD_some, wordBytes_absent, CurrentAvail.words_bytes,
      snapPts?, List.append_assoc]

theorem State.unitWords_bytes (s : State) :
    wordBytes s.unitWords = snapWord s.refusedWrites ++ s.dir.snap ++ s.snapClips ++ snapWord s.windowCount ++
      s.feeds.toList.flatMap FeedTracker.snap := by
  have f : ((List.finRange 6).flatMap fun i => (s.feed i).snap) = s.feeds.toList.flatMap FeedTracker.snap :=
    finRange_flatMap s.feeds FeedTracker.snap
  have n (st : ClipState) : ((List.finRange 64).countP fun k => decide ((s.clip k).state = st)) = s.clipCount st := by
    rw [List.countP_eq_length_filter]
    rfl
  have w : ((List.finRange 48).countP fun id => decide (s.window id ≠ none)) = s.windowCount := by
    rw [List.countP_eq_length_filter]
    unfold State.windowCount
    congr 2
    funext id
    cases s.window id <;> rfl
  have v : ((List.finRange 64).find? fun k => decide ((s.clip k).state = ClipState.verifying)) = s.verifying := rfl
  have q : s.verifyQueue.map (wordBytes ∘ fun k => [k.val]) = s.verifyQueue.map fun k => snapWord k.val := by
    simp [Function.comp_def]
  simp only [State.unitWords, n, w, v, wordBytes_append, wordBytes_cons, wordBytes_nil, wordBytes_list, wordBytes_or,
    wordBytes_flatMap, FeedTracker.words_bytes, wordBytes_map, List.map_map, q]
  unfold State.snapClips DirectiveUnit.snap
  simp only [List.flatMap_cons, List.flatMap_nil, List.append_nil, List.append_assoc, f]

/-- The items of a snapshot are the words of R191, each stored least significant byte first. -/
theorem State.snapshotWords_bytes (s : State) (x : Scope) : wordBytes (s.snapshotWords x) = s.snapItems x := by
  cases x with
  | device =>
    simp only [State.snapshotWords, wordBytes_append, State.unitWords_bytes, Receiver.words_bytes, AlertControl.words_bytes,
      LogWriter.words_bytes, State.snapItems, State.deviceItems]
  | channel c => exact s.channelWords_bytes c
  | clip n => exact (s.clip n).words_bytes

end Sys2Proof.Machine
end

