-- ==== Sys2Proof/WellFormed.lean ====
section
/-! DEFINITION. When a command is well formed: each operand within the range its format gives it. -/

namespace Sys2Proof

/-- The fields of a transaction at the upstream port (section 1.1). -/
def txnWf (tag addr len : Nat) : Bool :=
  decide (tag < 256) && decide (addr < 2 ^ 40) && decide (1 ≤ len) && decide (len ≤ 512)

/-- A directive's sequence number and slot (section 11.1). -/
def ticketWf (seq slot : Nat) : Bool :=
  decide (seq < 2 ^ 16) && decide (slot < 64)

/-- Every number of a list below `b`. -/
def allBelow (b : Nat) (l : List Nat) : Bool :=
  l.all fun x => decide (x < b)

/-- The widths of a CHANNEL_SET's fields (section 11.3). -/
def ChannelSetFields.wf (f : ChannelSetFields) : Bool :=
  allBelow 256 [f.channel, f.enable, f.policy] && decide (f.pids.length = 6) && allBelow (2 ^ 16) (f.cuePid :: f.pids) &&
    allBelow (2 ^ 32) [f.lateTolerance, f.maxBreak, f.returnLimit, f.clockTolerance]

/-- The widths of a CLIP_LOAD's fields (section 11.3). -/
def ClipLoadFields.wf (f : ClipLoadFields) : Bool :=
  allBelow 256 [f.clip, f.mapCount] && decide (f.base < 2 ^ 64) && allBelow (2 ^ 32) [f.cells, f.crc] &&
    decide (f.entries.length = 8) && f.entries.all (fun e => decide (e.1 < 2 ^ 16) && decide (e.2 < 256))

/-- The widths of a BIND's fields (section 11.3). -/
def BindFields.wf (f : BindFields) : Bool :=
  allBelow 256 [f.channel, f.podLength, f.uses] && decide (f.key < 2 ^ 16) && decide (f.clips.length = 4) &&
    allBelow 256 f.clips

/-- The widths of a WINDOW_ADD's fields (section 11.3). -/
def WindowAddFields.wf (f : WindowAddFields) : Bool :=
  allBelow 256 [f.window, f.channel, f.feed] && allBelow (2 ^ 64) [f.start, f.stop]

/-- The widths of an ALERT_SEND's fields (section 11.3). -/
def AlertSendFields.wf (f : AlertSendFields) : Bool :=
  allBelow (2 ^ 16) [f.alert, f.seconds] && allBelow 256 [f.level, f.groupMask, f.feed]

/-- Times strictly rising from `t` on. -/
def risingFrom (t : Nat) : List Nat → Bool
  | [] => true
  | x :: xs => decide (t < x) && risingFrom x xs

/-- A wave's edges come one after another (R137: an edge is a tick at which the line reads otherwise than the tick before). -/
def Wave.wf (w : Wave) : Bool :=
  risingFrom w.fall w.toggles

/-- A command whose operands are within their formats. -/
def Instr.wf : Instr → Bool
  | .bootRecordRead r => decide (r.length = 500)
  | .upstreamWrite tag addr len data enables =>
    txnWf tag addr len && decide (data.length = len) && decide (enables.length = len)
  | .upstreamRead tag addr len => txnWf tag addr len
  | .takeRead c => decide (c < 32)
  | .channelSet q t f => ticketWf q t && f.wf
  | .clipLoad q t f => ticketWf q t && f.wf
  | .clipFree q t c => ticketWf q t && decide (c < 256)
  | .bind q t f => ticketWf q t && f.wf
  | .unbind q t c k => ticketWf q t && decide (c < 256) && decide (k < 2 ^ 16)
  | .availAbort q t c e => ticketWf q t && decide (c < 256) && decide (e < 2 ^ 32)
  | .windowAdd q t f => ticketWf q t && f.wf
  | .windowDrop q t w => ticketWf q t && decide (w < 256)
  | .groupEdit q t g m k => ticketWf q t && allBelow 256 [g, m] && decide (k < 2 ^ 32)
  | .alertSend q t f => ticketWf q t && f.wf
  | .alertClear q t f => ticketWf q t && decide (f < 256)
  | .alertMode q t m => ticketWf q t && decide (m < 256)
  | .logClose q t => ticketWf q t
  | .logRestart q t => ticketWf q t
  | .status q t s n d => ticketWf q t && allBelow 256 [s, n] && decide (d < 2 ^ 64)
  | .rateMark w => w.wf
  | .rateTimeout w => w.wf
  | .bodyByte w => w.wf
  | .powerOn => true
  | .resetArrival => true
  | .resetRelease => true
  | .bootWordReadsComplete _ _ => true
  | .downstreamGrant => true
  | .passedTransactionComplete _ _ => true
  | .ringWriteComplete _ => true
  | .directiveTailWrite _ => true
  | .responseHeadWrite _ => true
  | .partialWatchedWrite _ => true
  | .clipCellArrival _ _ => true
  | .feedCellArrival _ _ => true
  | .directiveFetch => true
  | .fetchComplete _ _ => true
  | .statusWriteComplete _ _ => true
  | .responseEntryWriteComplete _ _ => true
  | .responseTailWriteComplete _ _ => true
  | .verifyReadComplete _ _ => true
  | .batchTimerExpiry => true
  | .logRecordWriteComplete _ _ => true
  | .markWriteComplete _ _ => true
  | .attention _ => true
  | .attentionEnd _ => true
  | .idleLimitExpiry => true
  | .alertExpiry => true

end Sys2Proof
end

