-- ==== Sys2Proof/Tests/Slice0.lean ====
section
/-! SUPPORT. Tests on small states: ill-formed commands are refused by WellFormed, single steps give the figures of the manual's
worked examples, and each statement with hypotheses has a state that meets them. -/

namespace Sys2Proof.Tests
open Sys2Proof Sys2Proof.Machine
set_option Elab.async false

/-! ## Small states -/

/-- A region map in the manner of section 1.8: channel 5's ring at 0100000000h, channel 31 without a ring. -/
def map : RegionMap where
  channelRings := Vector.ofFn fun c : Fin 32 =>
    if c = 31 then none else some ⟨0x100000000 + (c.val + 27) % 32 * 0x1000000, 4096⟩
  feedRings := Vector.ofFn fun f : Fin 6 => ⟨0x500000000 + f.val * 0x10000000, 300⟩
  clipArea := ⟨0x400000000, 0x1000000⟩
  logRegion := ⟨0x200000000, 65536⟩
  directiveBase := 0x300000000
  responseBase := 0x310000000
  statusArea := ⟨0x320000000, 65536⟩

/-- A running part with that map, every block at its boot values. -/
def base : State := { State.reset with
  boot := .running
  map := some map
  log := { LogWriter.reset with base := 0x200000000, size := 65536, floor := 65536, reserve := 10, run := 1 } }

/-- The state a command gives. -/
def after (c : Instr) (s : State) : State :=
  match exec c s with
  | .next t => t
  | .fault _ => s
  | .refused _ => s

/-- A directive has been fetched from slot 0 and is in the hands of its block. -/
def hand (c : Instr) (s : State) : State := { s with dir := { s.dir with dispatched := some c, owed := 1 } }

/-- The state after a directive that was in hand. -/
def taken (c : Instr) (s : State) : State := after c (hand c s)

/-- The bytes 2 to 5 of the response entry last asked for: kind, result, detail and slot. -/
def lastResponse (s : State) : List Nat :=
  match s.bus.txns.getLast? with
  | some x => if x.owner = .responseEntry then (slice x.data 2 4).map BitVec.toNat else []
  | none => []

/-- A transaction that has been issued. -/
def issued (id : Nat) (owner : Owner) (write : Bool) (addr len : Nat) (data : List Byte) (enables : List Bool) : Txn :=
  ⟨id, id, 1, write, addr, len, data, enables, owner, true⟩

/-- The state with one transaction under way, tag 7, and its entry of the in-flight list. -/
def under (x : Txn) (t : Treatment) (s : State) : State := { s with
  entries := [⟨x.id, x.write, 9, x.addr, x.len, t⟩]
  bus := { s.bus with txns := [x], next := x.id + 1 } }

/-- `n` enable flags, all set. -/
def full (n : Nat) : List Bool := List.replicate n true

/-- A cell with a random-access payload start: stamp, PID, continuity counter, PTS, and a PCR base and extension. -/
def cell (stamp pid cc : Nat) (entry : Bool) (pts : Option Nat) (pcr : Option (Nat × Nat)) : List Byte :=
  let field : List Byte := match pcr with
    | some (b, e) =>
      [7, if entry then 0x50 else 0x10, BitVec.ofNat 8 (b / 2 ^ 25), BitVec.ofNat 8 (b / 2 ^ 17), BitVec.ofNat 8 (b / 2 ^ 9),
        BitVec.ofNat 8 (b / 2), BitVec.ofNat 8 (b % 2 * 128 + 126 + e / 256), BitVec.ofNat 8 e]
    | none => [1, if entry then 0x40 else 0]
  let pes : List Byte := match pts with
    | some p =>
      [0, 0, 1, 0xE0, 0, 0, 0x80, 0x80, 5, BitVec.ofNat 8 (0x21 + p / 2 ^ 30 * 2), BitVec.ofNat 8 (p / 2 ^ 22),
        BitVec.ofNat 8 (p / 2 ^ 15 * 2 + 1), BitVec.ofNat 8 (p / 2 ^ 7), BitVec.ofNat 8 (p * 2 + 1)]
    | none => []
  let head : List Byte := (leBytes 4 stamp).reverse ++
    [0x47, BitVec.ofNat 8 ((if pts.isSome then 64 else 0) + pid / 256), BitVec.ofNat 8 pid, BitVec.ofNat 8 (0x30 + cc)] ++ field ++
    pes
  head ++ List.replicate (192 - head.length) 0xAA#8

/-- A cell with no timestamp. -/
def plain (pid : Nat) : List Byte := cell 7 pid 3 false none none

/-- An entry cell of PID 300. -/
def entryCell (p : Nat) : List Byte := cell 7 300 3 true (some p) none

/-- A role map with VIDEO on PID 300. -/
def roles : RoleMap := RoleMap.absent.set 0 (some 300)

/-- Channel `c` is in NETWORK, its VIDEO PID 300, its clock STEADY. -/
def onNetwork (c : Fin 32) (s : State) : State := s.mapChan c fun ch => { ch with
  state := .network
  source := .network
  config := { ch.config with roles := roles, cuePid := some 500 }
  clock := ⟨.steady, some (1000, 1000), 4⟩ }

/-- A READY clip of `n` cells at offset `off` of the clip area, its VIDEO on PID 100. -/
def ready (n off : Nat) : Clip := { Clip.reset with
  state := .ready
  base := 0x400000000 + off
  cells := n
  map := [(100, .video)]
  p0 := some 126000
  period := some 3003
  pMax := some 135009
  duration := some 12012
  firstPcr := some 35100150 }

/-! ## Ill-formed commands -/

/-- None of the commands is well formed. -/
def refusedAll (l : List Instr) : Bool := l.all fun c => !c.wf

def channelFields : ChannelSetFields :=
  ⟨5, 1, [300, 0xFFFF, 0xFFFF, 0xFFFF, 0xFFFF, 0xFFFF], 0xFFFF, 0, 0xFFFFFFFF, 0xFFFFFFFF, 0xFFFFFFFF, 0xFFFFFFFF⟩
def loadFields : ClipLoadFields := ⟨5, 1, 0x400000000, 4, 0, (100, 0) :: List.replicate 7 (0, 0)⟩
def bindFields : BindFields := ⟨3, 3, 12, 2, [7, 9, 7, 0]⟩
def windowFields : WindowAddFields := ⟨11, 4, 1, 58000000, 59500000⟩
def alertFields : AlertSendFields := ⟨4412, 1, 2, 1, 30⟩

theorem test_wf_accepts : [Instr.bootRecordRead (List.replicate 500 0), .upstreamWrite 255 (2 ^ 40 - 1) 1 [0] [true],
    .upstreamRead 0 0 512, .takeRead 31, .channelSet 65535 63 channelFields, .clipLoad 0 0 loadFields, .bind 0 0 bindFields,
    .windowAdd 0 0 windowFields, .alertSend 0 0 alertFields, .rateMark ⟨0, [1, 2]⟩].all Instr.wf = true := by decide +kernel

theorem test_wf_refuses_boot_record : refusedAll [.bootRecordRead (List.replicate 499 0)] = true := by decide +kernel

theorem test_wf_refuses_transactions : refusedAll [.upstreamRead 256 0 1, .upstreamRead 0 (2 ^ 40) 1, .upstreamRead 0 0 0,
    .upstreamRead 0 0 513, .upstreamWrite 0 0 2 [0] [true, true], .upstreamWrite 0 0 2 [0, 0] [true], .upstreamWrite 256 0 1 [0] [true],
    .takeRead 32] = true := by decide

theorem test_wf_refuses_tickets : refusedAll [.logClose 65536 0, .logClose 0 64, .logRestart 0 64, .channelSet 65536 0 channelFields,
    .clipLoad 0 64 loadFields, .clipFree 65536 0 0, .bind 0 64 bindFields, .unbind 0 64 0 0, .availAbort 65536 0 0 0,
    .windowAdd 0 64 windowFields, .windowDrop 0 64 0, .groupEdit 0 64 0 0 0, .alertSend 65536 0 alertFields, .alertClear 0 64 0,
    .alertMode 0 64 0, .status 65536 0 0 0 0] = true := by decide

theorem test_wf_refuses_channel_set : refusedAll [.channelSet 0 0 { channelFields with channel := 256 },
    .channelSet 0 0 { channelFields with enable := 256 }, .channelSet 0 0 { channelFields with policy := 256 },
    .channelSet 0 0 { channelFields with pids := [0] }, .channelSet 0 0 { channelFields with pids := List.replicate 6 65536 },
    .channelSet 0 0 { channelFields with cuePid := 65536 }, .channelSet 0 0 { channelFields with lateTolerance := 2 ^ 32 },
    .channelSet 0 0 { channelFields with maxBreak := 2 ^ 32 }, .channelSet 0 0 { channelFields with returnLimit := 2 ^ 32 },
    .channelSet 0 0 { channelFields with clockTolerance := 2 ^ 32 }] = true := by decide

theorem test_wf_refuses_clips : refusedAll [.clipLoad 0 0 { loadFields with clip := 256 }, .clipLoad 0 0 { loadFields with mapCount := 256 },
    .clipLoad 0 0 { loadFields with base := 2 ^ 64 }, .clipLoad 0 0 { loadFields with cells := 2 ^ 32 },
    .clipLoad 0 0 { loadFields with crc := 2 ^ 32 }, .clipLoad 0 0 { loadFields with entries := [] },
    .clipLoad 0 0 { loadFields with entries := List.replicate 8 (65536, 0) },
    .clipLoad 0 0 { loadFields with entries := List.replicate 8 (0, 256) }, .clipFree 0 0 256] = true := by decide

theorem test_wf_refuses_bindings : refusedAll [.bind 0 0 { bindFields with channel := 256 }, .bind 0 0 { bindFields with podLength := 256 },
    .bind 0 0 { bindFields with key := 65536 }, .bind 0 0 { bindFields with uses := 256 }, .bind 0 0 { bindFields with clips := [7] },
    .bind 0 0 { bindFields with clips := List.replicate 4 256 }, .unbind 0 0 256 0, .unbind 0 0 0 65536] = true := by decide

theorem test_wf_refuses_avails_and_windows : refusedAll [.availAbort 0 0 256 0, .availAbort 0 0 0 (2 ^ 32), .windowDrop 0 0 256,
    .windowAdd 0 0 { windowFields with window := 256 }, .windowAdd 0 0 { windowFields with channel := 256 },
    .windowAdd 0 0 { windowFields with feed := 256 }, .windowAdd 0 0 { windowFields with start := 2 ^ 64 },
    .windowAdd 0 0 { windowFields with stop := 2 ^ 64 }] = true := by decide

theorem test_wf_refuses_alerts_and_status : refusedAll [.alertSend 0 0 { alertFields with alert := 65536 },
    .alertSend 0 0 { alertFields with level := 256 }, .alertSend 0 0 { alertFields with groupMask := 256 },
    .alertSend 0 0 { alertFields with feed := 256 }, .alertSend 0 0 { alertFields with seconds := 65536 }, .alertClear 0 0 256,
    .alertMode 0 0 256, .groupEdit 0 0 256 0 0, .groupEdit 0 0 0 256 0, .groupEdit 0 0 0 0 (2 ^ 32), .status 0 0 256 0 0,
    .status 0 0 0 256 0, .status 0 0 0 0 (2 ^ 64)] = true := by decide

theorem test_wf_refuses_waves : refusedAll [.rateMark ⟨5, [5]⟩, .rateTimeout ⟨5, [6, 6]⟩, .bodyByte ⟨5, [8, 7]⟩] = true := by decide

/-! ## The manual's worked examples -/

/-- Section 1.8: a read of cell 4,095 is eligible, a read of 96 bytes is passed and counted, a read past the ring is passed. -/
theorem test_reads_classified :
    let s := base.mapChan 5 fun ch => { ch with state := .insert }
    (after (.upstreamRead 0 0x1000BFF40 192) s).entries.map (fun e => e.treatment.eligible) = [some 5] ∧
    (after (.upstreamRead 0 0x1000C0000 192) s).entries.map (fun e => e.treatment.eligible) = [none] ∧
    ((after (.upstreamRead 0 0x1000C0000 192) s).chan 5).counts.misaligned = 0 ∧
    ((after (.upstreamRead 0 0x100000780 96) s).chan 5).counts.misaligned = 1 := by decide +kernel

/-- Section 1.8: the treatments of a ring write, of a write to the log, of one with no byte enabled, and of the tail word. -/
theorem test_writes_classified :
    (map.writeTreatment 0x100000780 (full 192)).ring = true ∧ (map.writeTreatment 0x200000100 (full 16)).protectCheck = true ∧
    map.writeTreatment 0x400000000 (List.replicate 32 false) = Treatment.pass ∧
    (map.writeTreatment 0x300001000 (full 16)).tailWord = .whole ∧ (map.writeTreatment 0x300001002 (full 16)).tailWord = .part := by
  decide +kernel

/-- Section 1.8: the write to the log is refused at its grant, with WRITE_REFUSED while the count is 0. -/
theorem test_grant_refuses :
    let t := after .downstreamGrant (after (.upstreamWrite 9 0x200000100 16 (List.replicate 16 0) (full 16)) base)
    t.up = [⟨9, .refused⟩] ∧ t.refusedWrites = 1 ∧ t.log.sequence = 1 := by decide +kernel

/-- Section 2.2.1. -/
theorem test_arithmetic : isAfter 39408 8589900000 = true ∧ isAfter 8589900000 39408 = false ∧
    atOrAfter 0 4294967296 = false ∧ atOrAfter 4294967296 0 = false ∧ pcrDifference 900 2576980377000 = 1500 ∧
    stampSpan 4294080000 192704 = 1080000 ∧
    readPcr (cell 0 300 0 false none (some (8589891000, 150))) = some 2576967300150 := by decide +kernel

/-- Section 2.3.3, samples 5 and 6. -/
theorem test_clock_samples :
    let five := (⟨.unsteady, some (1003240200, 1272704), 3⟩ : ClockTracker).sample 270000 1004320200 2352704
    let six := five.tracker.sample 270000 5000000000 3432704
    five.tracker.status = .steady ∧ five.gained = true ∧ six.tracker.status = .unsteady ∧ six.lost = true ∧
    six.deviation = 3994599800 ∧ six.tracker.settle = 0 := by decide +kernel

/-- Section 2.3.5, the write at index 5: the skip passes four numbers over, and a break is counted. -/
theorem test_feed_tracker :
    let t := ({ FeedTracker.reset with roles := roles, written := 4294967293, next := 1, latest := some (4294967292, 7006) } :
      FeedTracker).takeCell 300 5 (plain 300)
    t.written = 2 ∧ t.next = 6 ∧ t.latest = some (4294967292, 7006) ∧ t.breaks = 1 := by decide +kernel

def clips : State := (base.mapClip 3 fun _ => ready 1000 0).mapClip 8 fun _ =>
  { Clip.reset with state := .failed, base := 0x400040000, cells := 10 }

/-- Section 4.2: kind, result, detail and slot of each CLIP_LOAD that is refused, and the ones that are accepted. -/
theorem test_clip_load_overlap :
    lastResponse (taken (.clipLoad 0 0 { loadFields with clip := 3 }) clips) = [2, 2, 0, 0] ∧
    lastResponse (taken (.clipLoad 0 0 { loadFields with base := 0x40002ED00 }) clips) = [2, 2, 0, 0] ∧
    lastResponse (taken (.clipLoad 0 0 { loadFields with base := 0x40002EE20 }) clips) = [2, 1, 0, 0] ∧
    lastResponse (taken (.clipLoad 0 0 { loadFields with base := 0x400040000 }) clips) = [2, 2, 0, 0] ∧
    ((taken (.clipLoad 0 0 { loadFields with clip := 8, base := 0x400040000, cells := 20 }) clips).clip 8).state = .verifying ∧
    ((taken (.clipLoad 0 0 { loadFields with base := 0x40002EE00 }) clips).clip 5).state = .verifying := by decide +kernel

/-- Section 4.5, cells 1 and 2. -/
theorem test_verification :
    let x : Clip := { Clip.reset with state := .verifying, cells := 8, cursor := 1, map := [(100, .video), (101, .audio1)] }
    let y := match x.step (.ok (cell 0 100 0 true (some 126000) (some (117000, 150)))) with
      | .on y => y
      | _ => x
    let z := match y.step (.ok (cell 0 100 0 false (some 129003) none)) with
      | .on z => z
      | _ => x
    y.p0 = some 126000 ∧ y.firstPcr = some 35100150 ∧ y.period = none ∧ z.period = some 3003 ∧ z.pMax = some 129003 ∧
      z.cursor = 3 := by decide +kernel

/-- Section 4.10: BIND stores the pod, and the bound clip is refused to a CLIP_FREE with detail BOUND. -/
theorem test_binding :
    let s := taken (.bind 0 0 bindFields) ((base.mapClip 7 fun _ => ready 10 0).mapClip 9 fun _ => ready 10 1920)
    (s.bindingTable 3)[0] = some ⟨some 12, 2, [7, 9, 7]⟩ ∧ lastResponse (taken (.clipFree 0 0 9) s) = [3, 3, 3, 0] := by
  decide +kernel

/-- A window of channel 4 on L1. -/
def window (start stop : Pts) (st : WindowState) : Window := ⟨4, 1, start, stop, st⟩

/-- Section 7.7, event 3: the avail returns, window 11 lapses, and window 12 starts at L1's entry. -/
theorem test_window_starts :
    let s := onNetwork 4 base
    let s := s.mapChan 4 fun ch => { ch with
      state := .insert
      source := .clip 7 3
      avail := some ⟨4100, 0, 59000000, some (60100000, .breakEnd), true, [7], 0⟩
      windows := [11, 12, 13]
      ready := [⟨50, .ok (entryCell 60126125)⟩] }
    let s := (s.setWindow 11 (some (window 58000000 59500000 .scheduled))).setWindow 12
      (some (window 60000000 63000000 .scheduled))
    let s := (s.setWindow 13 (some (window 64000000 64500000 .scheduled))).mapFeed 1 fun t => { t with
      written := 20010
      latest := some (20000, 1500000) }
    let t := after (.takeRead 4) s
    (t.chan 4).state = .subst ∧ (t.chan 4).source = .feed 1 (some 20001) ∧ (t.chan 4).delta = 58626125 ∧
      (t.chan 4).windows = [12, 13] ∧ (t.chan 4).window = some 12 ∧ t.log.sequence = 4 := by decide +kernel

/-- Section 8.5: the rate mark's edges, from the start edge at 1,000,000. -/
def rateWave : Wave := ⟨1000000, [1005640, 1008465, 1011283, 1014104, 1016928, 1019747, 1022571]⟩

def inRateMark : State := { base with
  receiver := { Receiver.reset with state := .rateMark, idleFrom := some 990000, nominal := 2812, zones := [0x102, 0x203] } }

/-- Section 8.5: the mark is accepted with period 2,821, and a byte may begin until 20 periods after its last sample. -/
theorem test_rate_mark :
    let t := after (.rateMark rateWave) inRateMark
    t.receiver.state = .body ∧ t.receiver.period = some 2821 ∧ t.receiver.idleFrom = some 1026975 ∧
      t.receiver.counts.noise = 0 := by decide +kernel

/-- Section 8.5: a span of 22,300 is abandoned as RATE. -/
theorem test_rate_mark_out_of_tolerance :
    let t := after (.rateMark ⟨1000000, [1006371, 1009557, 1012743, 1015929, 1019115, 1022300]⟩) inRateMark
    t.receiver.state = .standby ∧ t.receiver.counts.rate = 1 := by decide +kernel

/-- R138, R141, R143: in the mark of section 8.5 a pulse on the start bit's first sample is outvoted. Its edges are not recorded, and the
noise is counted. -/
theorem test_rate_mark_noisy_start :
    let t := after (.rateMark ⟨1000000, [1001200, 1001300] ++ rateWave.toggles⟩) inRateMark
    t.receiver.state = .body ∧ t.receiver.period = some 2821 ∧ t.receiver.counts.noise = 1 := by decide +kernel

/-- Section 9.7 before event 1. -/
def alertState : State :=
  let s := { base with
    house := 100000000000
    alerts := { AlertControl.reset with mode := .holdLast, groups := (AlertControl.reset.groups.set 0 52).set 1 528 } }
  let s := s.mapChan 2 fun ch => { ch with
    state := .insert
    source := .clip 9 5000
    avail := some ⟨3001, 0, 50000000, none, false, [9], 0⟩
    outPts := some 51300000 }
  let s := s.mapChan 4 fun ch => { ch with
    state := .subst
    source := .feed 1 (some 5)
    window := some 12
    windows := [12]
    outPts := some 100003003
    netPts := some 108102000 }
  let s := (s.mapChan 5 fun ch => { ch with state := .network, source := .network, outPts := some 30030000 }).setWindow 12
    (some (window 90000000 140000000 .active))
  ((s.mapClip 9 fun _ => { ready 20000 0 with plays := 1 }).mapFeed 4 fun t => { t with latest := some (88000, 2000000) }).mapFeed 5
    fun t => { t with latest := some (41500, 500000) }

/-- Section 9.7, event 1. -/
theorem test_alert_takes_channels :
    let t := (alertState.arrive ⟨4411, 2, .line, 1, 0, 60⟩).1
    [2, 4, 5, 9].map (fun c => (t.chan c).state) = [.alert, .alert, .alert, .off] ∧ (t.chan 2).delta = 49300000 ∧
      (t.chan 4).delta = 98003003 ∧ (t.chan 5).delta = 28030000 ∧ (t.clip 9).plays = 0 ∧ (t.chan 2).recent = [3001] ∧
      (t.alerts.current.map fun x => x.duration) = some (some 1620000000) ∧ t.log.sequence = 3 := by decide +kernel

/-- Section 10.3: the mark of batch 3, whose check byte is 57h. -/
theorem test_mark : (⟨64, 3, 65537 % 65536, 2, 0x0A0B0C0D, 0, 0, true⟩ : ClosedBatch).markBytes =
    [0x5B, 0x4C, 0x57, 2, 3, 0, 1, 0, 0x40, 0, 0, 0, 0x0D, 0x0C, 0x0B, 0x0A] := by decide +kernel

/-! ## States that meet the hypotheses of the statements -/

/-- The directive in hand is `c` in `hand c s`. -/
theorem hand_inHand (c : Instr) (s : State) : (hand c s).inHand c := rfl

theorem witness_StepRunsTheFrontCommand :
    ({ State.reset with pending := [.powerOn, .downstreamGrant] } : State).pending = .powerOn :: [.downstreamGrant] ∧
    ({ State.reset with boot := .held } : State).pending = [] ∧ State.reset.pending = [] ∧ State.reset.boot ≠ .held := by
  decide

theorem witness_EveryCommandCompletesAndKeepsTheQueue :
    isDirective (.logClose 0 0) = true ∧ ¬ base.inHand (.logClose 0 0) ∧ ¬ (hand (.logClose 1 0) base).inHand (.logClose 0 0) :=
  ⟨rfl, by simp [State.inHand, base, State.reset, DirectiveUnit.reset], by simp [State.inHand, hand]⟩

/-- A read in hand and a ready read, each with its entry. -/
def answeredReads : State := { base with
  entries := [⟨3, false, 9, 0, 192, Treatment.pass⟩, ⟨4, false, 10, 0, 192, Treatment.pass⟩] }.mapChan 5 fun ch => { ch with
    inHand := some ⟨3, plain 300, 8, false⟩
    ready := [⟨4, .error⟩] }

theorem witness_ResetPutsEveryBlockInItsResetState :
    ((answeredReads.channels.toList.flatMap Channel.answered).map ReadyRead.entry).Nodup ∧
    (answeredReads.entries.map Entry.id).Nodup ∧ ⟨3, .ok (plain 300)⟩ ∈ (answeredReads.chan 5).answered ∧
    ⟨4, .error⟩ ∈ (answeredReads.chan 5).answered ∧ (answeredReads.entries.map Entry.id) = [3, 4] := by decide +kernel

/-- A boot record that passes, without its CRC: channel 5 alone has a ring, and each feed has VIDEO and AUDIO1. -/
def bootBody : List Byte :=
  leBytes 4 0x31364C42 ++ leBytes 2 500 ++ leBytes 2 0 ++
    (List.range 32).flatMap (fun c => if c = 5 then leBytes 5 0x100000000 ++ leBytes 3 4096 else leBytes 8 0) ++
    (List.range 6).flatMap (fun f => leBytes 5 (0x500000000 + f * 0x10000000) ++ leBytes 3 256 ++ leBytes 2 256 ++ leBytes 2 8190 ++
      List.replicate 8 0xFF#8) ++
    leBytes 8 0x400000000 ++ leBytes 8 64 ++ leBytes 8 0x200000000 ++ leBytes 8 4096 ++ leBytes 8 0x300000000 ++
    leBytes 8 0x310000000 ++ leBytes 8 0x320000000 ++ leBytes 8 65536 ++ leBytes 1 2 ++ leBytes 1 0 ++ leBytes 2 0x102 ++
    leBytes 2 0x203 ++ leBytes 4 0xFFFFFFFF ++ leBytes 4 2812 ++ leBytes 1 1 ++ leBytes 1 255 ++ List.replicate 32 0#8

/-- The record with its CRC-32. -/
def bootRecord : List Byte := bootBody ++ leBytes 4 643374406

/-- One part of the record's CRC, so that each evaluation is short. -/
theorem crc_part (k : Nat) {c d : BitVec 32} (h : crc32 (bootBody.take (62 * k)) = c)
    (h' : crc32Fold c (slice bootBody (62 * k) 62) = d) : crc32 (bootBody.take (62 * (k + 1))) = d := by
  rw [← h', ← h, Nat.mul_add, Nat.mul_one, List.take_add]
  exact List.foldl_append

theorem bootRecord_crc : crc32 (bootRecord.take 496) = 643374406#32 := by
  have e : bootRecord.take 496 = bootBody.take (62 * 8) := by decide +kernel
  rw [e]
  have h0 : crc32 (bootBody.take (62 * 0)) = 4294967295#32 := rfl
  have h1 := crc_part 0 h0 (d := 907784134#32) (by decide +kernel)
  have h2 := crc_part 1 h1 (d := 3702527226#32) (by decide +kernel)
  have h3 := crc_part 2 h2 (d := 368049047#32) (by decide +kernel)
  have h4 := crc_part 3 h3 (d := 1119613969#32) (by decide +kernel)
  have h5 := crc_part 4 h4 (d := 1426231369#32) (by decide +kernel)
  have h6 := crc_part 5 h5 (d := 3419478312#32) (by decide +kernel)
  have h7 := crc_part 6 h6 (d := 1561854486#32) (by decide +kernel)
  have h8 := crc_part 7 h7 (d := 643374406#32) (by decide +kernel)
  exact h8

theorem bootRecord_parses : parseBoot bootRecord = some (bootImage bootRecord .holdLast) := by
  have h : bootFrameOk bootRecord = true := by
    unfold bootFrameOk
    rw [bootRecord_crc]
    decide +kernel
  have h' : (bootChannelsOk bootRecord && bootFeedsOk bootRecord && (bootMap bootRecord).shapeOk && (bootMap bootRecord).layoutOk &&
      bootSettingsOk bootRecord) = true := by decide +kernel
  have h'' : QueueMode.ofCode (leField bootRecord 462 1) = some .holdLast := by decide +kernel
  simp only [Bool.and_eq_true] at h'
  simp only [parseBoot, h, h', h'', Bool.and_self, if_true, Option.map_some]

theorem witness_BootsBeginAndReadTheirRecord :
    ({ State.reset with boot := .held } : State).boot = .held ∧ base.boot ≠ .held ∧ State.reset.boot = .readingRecord ∧
    parseBoot bootRecord = some (bootImage bootRecord .holdLast) ∧ parseBoot [] = none :=
  ⟨rfl, by decide, rfl, bootRecord_parses, by decide +kernel⟩

theorem witness_AcceptedBootRecordsLayOutDisjointRegions :
    parseBoot bootRecord = some (bootImage bootRecord .holdLast) ∧
    (bootImage bootRecord .holdLast).map.channelRings[(5 : Fin 32)] = some ⟨0x100000000, 4096⟩ ∧
    (bootImage bootRecord .holdLast).map.clipArea.size = 64 := ⟨bootRecord_parses, by decide +kernel, by decide +kernel⟩

/-- The boot values of the record stand in it by the table of section 11.6, and its frame and fields pass. -/
theorem witness_AcceptedBootRecordsLayOutDisjointRegions_layout : bootRecord.length = 500 ∧
    (bootImage bootRecord .holdLast).standsIn bootRecord ∧ bootFieldsLawful bootRecord ∧
    (∀ p ∈ (bootImage bootRecord .holdLast).map.extents, p.base + p.size ≤ 2 ^ 40) ∧
    spansApart (bootImage bootRecord .holdLast).map.extents ∧
    ∀ f : Fin 6, (bootImage bootRecord .holdLast).feedRoles[f].lawful := by
  refine ⟨by decide +kernel, ?_, ?_, and_assoc.1 ⟨(RegionMap.layoutOk_iff _).1 (by decide +kernel),
    fun f => (RoleMap.valid_iff _).1 ?_⟩⟩
  · unfold BootImage.standsIn
    decide +kernel
  · unfold bootFieldsLawful
    rw [bootRecord_crc]
    decide +kernel
  · revert f
    decide +kernel

/-- The two boot reads are under way. -/
def bootReads : State := { State.reset with
  boot := .readingWords
  image := some (bootImage bootRecord .holdLast)
  bus := { txns := [issued 0 .bootTail false 0x300001000 4 [] [], issued 1 .bootHead false 0x310000400 4 [] []], next := 2, choices := 0 } }

theorem witness_BootEndsWithReady : bootReads.boot = .readingWords ∧ bootReads.image.isSome = true ∧
    (∃ u ∈ bootReads.bus.txns, u.owner = .bootTail ∧ u.issued = true) ∧
    (∃ u ∈ bootReads.bus.txns, u.owner = .bootHead ∧ u.issued = true) ∧ leField [63, 0, 0, 0] 0 4 = 63 ∧
    leField [64, 0, 0, 0] 0 4 = 64 ∧
    (let t := after (.bootWordReadsComplete (.ok [63, 0, 0, 0]) (.ok [64, 0, 0, 0])) bootReads
     t.boot = .running ∧ t.dir.head = 63 ∧ t.dir.responseHead = 0 ∧ t.dir.responseTail = 1 ∧ t.dir.ignoredHeads = 1 ∧
      t.log.floor = 4096 ∧ t.receiver.readingFrom = some 0) := by decide +kernel

/-- `n` upstream reads in the in-flight list. -/
def listOf (n : Nat) : State := { base with entries := (List.range n).map fun i => ⟨i, false, i, 0, 64, Treatment.pass⟩ }

theorem witness_UpstreamWritesAreClassified : (listOf 64).entries.length = 64 ∧ (listOf 63).entries.length < 64 ∧
    (listOf 63).map = some map ∧ State.reset.map = none := by decide +kernel

theorem witness_UpstreamReadsAreClassified :
    let s := ((listOf 63).mapChan 5 fun ch => { ch with state := .insert }).mapChan 6 fun ch => { ch with state := .network }
    s.entries.length < 64 ∧ s.channelRing 5 = some ⟨0x100000000, 4096⟩ ∧ (s.chan 5).state ≠ .off ∧ (s.chan 5).state ≠ .network ∧
    (s.chan 6).state = .network ∧ (s.chan 7).state = .off ∧ 0x1000BFF40 = 0x100000000 + 192 * 4095 := by decide +kernel

/-- One verification read waits for its grant. -/
def oneRead : State := { base with bus := (base.bus.read 4 0x400000000 192 (.verify 3)) }

/-- One upstream write of one byte at `addr` waits for its grant. -/
def oneWrite (addr : Nat) : State := base.accept true 9 addr 1 [0] [true] (map.writeTreatment addr [true]) .upstream

theorem oneRead_turnsTo : ∃ x, oneRead.bus.turnsTo x ∧ x.owner ≠ .upstream :=
  ⟨⟨0, 0, 4, false, 0x400000000, 192, [], [], .verify 3, false⟩, by
    simp [Bus.turnsTo, Bus.isCandidate, oneRead, base, State.reset, Bus.read, Bus.request]⟩

theorem oneWrite_turnsTo (addr : Nat) :
    (oneWrite addr).bus.turnsTo ⟨0, 0, 1, true, addr, 1, [0], [true], .upstream, false⟩ := by
  simp [Bus.turnsTo, Bus.isCandidate, oneWrite, base, State.reset, State.accept, Bus.request]

theorem oneWrite_tagsApart (addr : Nat) : (oneWrite addr).tagsApart := by
  simp [State.tagsApart, oneWrite, base, State.reset, State.accept, Bus.request]

/-- No candidate; a read; and a write under protect-check that touches no byte protected now (an empty clip area). -/
theorem witness_GrantIssuesTheFirstCandidate :
    (∀ x, ¬ base.bus.isCandidate x) ∧ base.tagsApart ∧ oneRead.tagsApart ∧ (∃ x, oneRead.bus.turnsTo x ∧ x.owner ≠ .upstream) ∧
    (oneWrite 0x400000000).tagsApart ∧ (map.writeTreatment 0x400000000 [true]).protectCheck = true ∧
    (oneWrite 0x400000000).touchesProtected ⟨0, 0, 1, true, 0x400000000, 1, [0], [true], .upstream, false⟩ = false :=
  ⟨by simp [Bus.isCandidate, base, State.reset], by simp [State.tagsApart, base, State.reset],
    by simp [State.tagsApart, oneRead, base, State.reset, Bus.read, Bus.request], oneRead_turnsTo, oneWrite_tagsApart _,
    by decide +kernel, by decide +kernel⟩

/-- A refusal that is reported, and one that follows another. -/
theorem witness_GrantRefusesAProtectedWrite :
    let s := oneWrite 0x20000FFFF
    let t := after .downstreamGrant s
    s.tagsApart ∧ s.bus.turnsTo ⟨0, 0, 1, true, 0x20000FFFF, 1, [0], [true], .upstream, false⟩ ∧
    (∃ b, touchesByte 0x20000FFFF [true] b ∧ s.protects b) ∧
    s.entries.map (fun e => (e.id, e.treatment.protectCheck)) = [(0, true)] ∧ s.refusedWrites = 0 ∧ s.bus.next = 1 ∧
    t.refusedWrites = 1 ∧ t.log.sequence = 1 ∧ (t.bus.txns.map fun y => (y.id, y.owner, y.issued)) = [(1, .logRecord 1 0, true)] ∧
    (after .downstreamGrant { s with refusedWrites := 1 }).log.sequence = 0 ∧
    (after .downstreamGrant { s with refusedWrites := 1 }).refusedWrites = 2 :=
  ⟨oneWrite_tagsApart _, oneWrite_turnsTo _, ⟨0x20000FFFF, by simp [touchesByte], .inl ⟨map, rfl, .inl (by simp [Span.has, map])⟩⟩,
    by decide +kernel⟩

theorem witness_NoGrantIssuesAProtectedWrite :
    (oneWrite 0x310000413).tagsApart ∧ (oneWrite 0x310000413).bus.txns.map Txn.issued = [false] ∧
    (oneWrite 0x310000413).entries.map (fun e => e.treatment.protectCheck) = [true] ∧
    (∃ b, touchesByte 0x310000413 [true] b ∧ (oneWrite 0x310000413).protects b) ∧
    ∃ t, exec .downstreamGrant (oneWrite 0x310000413) = .next t :=
  ⟨oneWrite_tagsApart _, by decide +kernel, by decide +kernel, ⟨0x310000413, by simp [touchesByte],
    .inl ⟨map, rfl, .inr (.inr (.inr (by simp [map])))⟩⟩, _, rfl⟩

theorem witness_MemoryAnswersGoUpstream :
    let passed := issued 7 .upstream false 0x200000100 64 [] []
    let s := under passed Treatment.pass base
    let fetch := issued 7 .networkFetch false 0x100000000 192 [] []
    let s' := under fetch { Treatment.pass with eligible := some 5 } base
    s.bus.issuedTxn 7 = some passed ∧ s.entry 7 = some ⟨7, false, 9, 0x200000100, 64, Treatment.pass⟩ ∧
    s'.bus.issuedTxn 7 = some fetch ∧ (s'.entry 7).map (fun e => e.treatment.eligible) = some (some 5) ∧
    (after (.passedTransactionComplete 7 (.ok [1])) s).up = [⟨9, .ok [1]⟩] ∧
    ((after (.passedTransactionComplete 7 .error) s').chan 5).ready = [⟨7, .error⟩] := by decide +kernel

/-- A ring write of one whole cell at `addr` is under way. -/
def ringWrite (addr : Nat) (bytes : List Byte) (s : State) : State :=
  under (issued 7 .upstream true addr 192 bytes (full 192)) (map.writeTreatment addr (full 192)) s

/-- The last cell of L2's ring, written where the writer stands. -/
theorem witness_FeedCellsAreNumbered :
    let s := ringWrite (0x520000000 + 192 * 299) (entryCell 7006) (base.mapFeed 2 fun t => { t with roles := roles, next := 299 })
    s.bus.issuedTxn 7 = some (issued 7 .upstream true (0x520000000 + 192 * 299) 192 (entryCell 7006) (full 192)) ∧
    (s.entry 7).map (fun e => (e.write, e.treatment)) = some (true, ⟨false, true, .none, .none, none⟩) ∧
    map.feedRings[2].base = 0x520000000 ∧ 299 < map.feedRings[2].cells ∧ (entryCell 7006).length = 192 ∧
    (∀ g : Fin 6, g ≠ 2 → ¬ (map.feedRings[g].base ≤ 0x520000000 + 192 * 299 ∧
      0x520000000 + 192 * 299 < map.feedRings[g].base + 192 * map.feedRings[g].cells)) ∧
    (∀ c : Fin 32, ∀ r ∈ map.channelRings[c], ¬ (r.base ≤ 0x520000000 + 192 * 299 ∧ 0x520000000 + 192 * 299 < r.base + 192 * r.cells)) ∧
    ((after (.ringWriteComplete 7) s).feed 2).latest = some (0, 7006) ∧ ((after (.ringWriteComplete 7) s).feed 2).next = 0 := by
  decide +kernel

/-- A write under way of ten bytes before the last cell of channel 5's ring, that cell, and the first of a feed ring moved next to it. -/
def twoRings (enables : List Bool) : State :=
  let m := { map with feedRings := map.feedRings.set 0 ⟨0x1000C0000, 300⟩ }
  let data := List.replicate 10 3 ++ cell 2000 300 0 false (some 99) none ++ entryCell 7006
  under (issued 7 .upstream true 0x1000BFF36 394 data enables) (m.writeTreatment 0x1000BFF36 enables)
    { onNetwork 5 base with map := some m }

/-- The cells that the clause of several cells asks for are those of the model, for a write of two cells and for one in which a byte of
each is not enabled. -/
theorem witness_FeedCellsAreNumbered_cells :
    let m := { map with feedRings := map.feedRings.set 0 ⟨0x1000C0000, 300⟩ }
    let data := List.replicate 10 3 ++ cell 2000 300 0 false (some 99) none ++ entryCell 7006
    let x (enables : List Bool) := issued 7 .upstream true 0x1000BFF36 394 data enables
    let part := ((full 394).set 10 false).set 393 false
    (∀ y, y ∈ [⟨0x1000BFF40, .channel 5, 4095, cell 2000 300 0 false (some 99) none⟩, ⟨0x1000C0000, .feed 0, 0, entryCell 7006⟩] ↔
      m.holdsWhole (x (full 394)) y) ∧ (∀ y, y ∈ [] ↔ m.holdsWhole (x part) y) := by
  refine ⟨fun y => ?_, fun y => ?_⟩ <;> rw [← RegionMap.mem_wholeCells _ _ (by decide +kernel)]
  · have h : RegionMap.wholeCells { map with feedRings := map.feedRings.set 0 ⟨0x1000C0000, 300⟩ } 0x1000BFF36
        (List.replicate 10 3 ++ cell 2000 300 0 false (some 99) none ++ entryCell 7006) (full 394) =
        [⟨0x1000BFF40, .channel 5, 4095, cell 2000 300 0 false (some 99) none⟩, ⟨0x1000C0000, .feed 0, 0, entryCell 7006⟩] := by
      decide +kernel
    exact iff_of_eq (congrArg (y ∈ ·) h.symm)
  · have h : RegionMap.wholeCells { map with feedRings := map.feedRings.set 0 ⟨0x1000C0000, 300⟩ } 0x1000BFF36
        (List.replicate 10 3 ++ cell 2000 300 0 false (some 99) none ++ entryCell 7006)
        (((full 394).set 10 false).set 393 false) = [] := by
      decide +kernel
    exact iff_of_eq (congrArg (y ∈ ·) h.symm)

/-- The rest of what that clause asks, and both writes. -/
theorem witness_FeedCellsAreNumbered_writes :
    let part := ((full 394).set 10 false).set 393 false
    let t (enables : List Bool) := after (.ringWriteComplete 7) (twoRings enables)
    [full 394, part].map (fun enables => (twoRings enables).entries.map fun e => (e.write, e.treatment)) =
      List.replicate 2 [(true, ⟨false, true, .none, .none, none⟩)] ∧
    ((twoRings part).bus.issuedTxn 7).map (fun x => (x.owner, x.enables.length)) = some (.upstream, 394) ∧
    (((t (full 394)).chan 5).ingestPts, ((t (full 394)).feed 0).written) = (some 99, 1) ∧
    (((t part).chan 5).ingestPts, ((t part).feed 0).written, (t part).up) = (none, 0, [⟨9, .ok []⟩]) := by decide +kernel

/-- The last cell of channel 5's ring. -/
def watched (bytes : List Byte) (f : Channel → Channel) : State :=
  ringWrite 0x1000BFF40 bytes ((onNetwork 5 base).mapChan 5 f)

/-- The hypotheses of ChannelCellsAreWatched, then each of its clauses: OFF, malformed, another PID, no PCR, unseen, a deviation
beyond the tolerance and one at it. -/
theorem witness_ChannelCellsAreWatched :
    let pcr := cell 2000 300 0 false none (some (0, 200))
    let s := watched pcr id
    s.bus.issuedTxn 7 = some (issued 7 .upstream true 0x1000BFF40 192 pcr (full 192)) ∧
    (s.entry 7).map (fun e => (e.write, e.treatment)) = some (true, ⟨false, true, .none, .none, none⟩) ∧
    map.channelRings[(5 : Fin 32)] = some ⟨0x100000000, 4096⟩ ∧ 0x1000BFF40 = 0x100000000 + 192 * 4095 ∧ pcr.length = 192 ∧
    (∀ g : Fin 6, ¬ (map.feedRings[g].base ≤ 0x1000BFF40 ∧ 0x1000BFF40 < map.feedRings[g].base + 192 * map.feedRings[g].cells)) ∧
    (∀ c : Fin 32, c ≠ 5 → ∀ r ∈ map.channelRings[c], ¬ (r.base ≤ 0x1000BFF40 ∧ 0x1000BFF40 < r.base + 192 * r.cells)) ∧
    (s.chan 5).config.cuePid ≠ some (cellPid pcr) ∧ ((watched pcr fun _ => Channel.reset).chan 5).state = .off ∧
    (s.chan 5).state ≠ .off ∧ wellFormed (pcr.set 4 0) = false ∧ wellFormed (plain 301) = true ∧
    (s.chan 5).pidOf .video ≠ some (cellPid (plain 301)) ∧ (s.chan 5).pidOf .video = some (cellPid pcr) ∧
    readPcr (plain 300) = none ∧ readPcr pcr = some 200 ∧ (s.chan 5).clock.last = some (1000, 1000) ∧
    ((watched pcr fun ch => { ch with clock := ClockTracker.reset }).chan 5).clock.status = .unseen ∧
    ((after (.ringWriteComplete 7) (watched pcr fun ch => { ch with config := { ch.config with clockTolerance := 1800 } })).chan 5).clock
      = ⟨.steady, some (200, 2000), 4⟩ ∧
    ((after (.ringWriteComplete 7) (watched pcr fun ch => { ch with config := { ch.config with clockTolerance := 1799 } })).chan 5).clock
      = ⟨.unsteady, some (200, 2000), 0⟩ := by decide +kernel

/-- Kind, channel and reason of the log records asked for. -/
def records (s : State) : List (List Nat) :=
  s.bus.txns.filterMap fun x => match x.owner with
    | .logRecord _ _ => some ((slice x.data 0 3).map BitVec.toNat)
    | _ => none

/-- A cell of PID 500 with a cue of this kind for event 1001, avail 20, time 10,000,000 or none. -/
def cueCell (kind : Byte) (timed : Bool) : List Byte :=
  let body : List Byte := [0xE5, 1, kind, 0, 0, 3, 0xE9] ++ (if timed then [0x80, 0, 0, 0x98, 0x96, 0x80] else [0]) ++ [20]
  let head := [0, 0, 0, 7, 0x47, 0x41, 0xF4, 0x10#8] ++ body ++ (leBytes 4 (crc32 body).toNat).reverse
  head ++ List.replicate (192 - head.length) 0xFF#8

/-- Samples 1,800 ticks behind and 1,801 ahead of a STEADY tracker of tolerance 1,799, the fourth in tolerance and the third; and a cell
of the cue PID, of an enabled channel and of one that is OFF. -/
theorem witness_ChannelCellsAreWatched_records :
    let sample (b e : Nat) (clock : ClockTracker) (tolerance : Nat) := records (after (.ringWriteComplete 7)
      (watched (cell 2000 300 0 false none (some (b, e))) fun ch =>
        { ch with clock := clock, config := { ch.config with clockTolerance := tolerance } }))
    let cue (f : Channel → Channel) := watched (cueCell 1 true) f
    let off (ch : Channel) : Channel := { ch with state := .off }
    sample 0 200 ⟨.steady, some (1000, 1000), 4⟩ 1799 = [[16, 5, 2]] ∧
    sample 12 201 ⟨.steady, some (1000, 1000), 4⟩ 1799 = [[16, 5, 1]] ∧
    sample 12 201 ⟨.unsteady, some (1000, 1000), 4⟩ 1799 = [] ∧
    sample 12 200 ⟨.unsteady, some (1000, 1000), 3⟩ 1800 = [[17, 5, 0]] ∧
    sample 12 200 ⟨.unsteady, some (1000, 1000), 2⟩ 1800 = [] ∧
    ((cue id).chan 5).config.cuePid = some (cellPid (cueCell 1 true)) ∧ wellFormed (cueCell 1 true) = true ∧
    records (after (.ringWriteComplete 7) (cue id)) = [[6, 5, 0]] ∧
    records (after (.ringWriteComplete 7) (cue off)) = [] := by decide +kernel

/-- A queued event of the id, due at 9,000,000. -/
def queuedEvent (event : Nat) : AvailEvent := ⟨event, 9000000, none, false, 0, [9], none⟩

/-- A channel 5 in NETWORK that holds these events, and its bindings. -/
def cued (events : List Nat) (policy : FullPolicy) (bindings : Vector (Option Binding) 8) : State :=
  ((onNetwork 5 base).mapChan 5 fun ch => { ch with
    ingestPts := some 9500000
    queue := events.map queuedEvent
    config := { ch.config with policy := policy } }).setBindings 5 bindings

/-- The avail's own binding in slot 7, and ANY in slot 0. -/
def twoBindings : Vector (Option Binding) 8 :=
  ((Vector.replicate 8 none).set 0 (some ⟨none, 1, [9]⟩)).set 7 (some ⟨some 20, 2, [7, 9]⟩)

theorem witness_OutCuesJoinTheQueue :
    sortCue (cueCell 1 true) = .accepted ⟨.out, 1001, some 10000000, none, false, 20⟩ ∧
    sortCue (cueCell 1 false) = .accepted ⟨.out, 1001, none, none, false, 20⟩ ∧
    ((cued [] .keep twoBindings).chan 5).ingestPts = some 9500000 ∧ 1001 ∈ ((cued [1001] .keep twoBindings).chan 5).queue.map AvailEvent.event ∧
    (∀ i : Fin 8, ∀ b ∈ ((cued [] .keep (Vector.replicate 8 none)).bindingTable 5)[i], b.key ≠ some 20 ∧ b.key ≠ none) ∧
    ((cued [] .keep twoBindings).bindingTable 5)[7] = some ⟨some 20, 2, [7, 9]⟩ ∧
    (∀ j : Fin 8, ∀ b ∈ twoBindings[j], b.key = some 20 → j = 7) ∧
    ((cued [1, 2, 3] .keep twoBindings).chan 5).queue.length < 4 ∧ ((cued [1, 2, 3, 4] .keep twoBindings).chan 5).queue.length = 4 ∧
    ((cued [1, 2, 3, 4] .earliest twoBindings).chan 5).config.policy = .earliest ∧
    (((cued [1, 2, 3] .keep twoBindings).cueCell 5 (cueCell 1 true)).chan 5).queue.map AvailEvent.event = [1, 2, 3, 1001] ∧
    (((cued [1, 2, 3, 4] .earliest twoBindings).cueCell 5 (cueCell 1 true)).chan 5).queue.map AvailEvent.event = [1, 2, 3, 4] ∧
    (((cued [1, 2, 3, 4] .keep twoBindings).cueCell 5 (cueCell 1 true)).chan 5).recent = [1001] := by decide +kernel

/-- A cue of the kind OUT with a duration, whose high byte is `high`, and no time. -/
def longCue (high : Byte) : List Byte :=
  let body : List Byte := [0xE5, 1, 1, 0, 0, 3, 0xE9, 0x60, high, 0, 0, 0, 9, 20]
  let head := [0, 0, 0, 7, 0x47, 0x41, 0xF4, 0x10#8] ++ body ++ (leBytes 4 (crc32 body).toNat).reverse
  head ++ List.replicate (192 - head.length) 0xFF#8

/-- Each sorting: no payload start, scrambled, another tag, a payload one byte too short and one just long enough, a wrong version and so a
wrong check, a kind of 4, and durations of 2^32 and just below. -/
theorem witness_OutCuesJoinTheQueue_sorting :
    let c := cueCell 1 true
    let short (n : Byte) : List Byte := (c.take 7 ++ [0x30, n] ++ List.replicate n.toNat 0 ++ slice c 8 18).take 192
    sortCue (plain 500) = .ignored ∧ sortCue (c.set 7 0x50) = .bad ∧ sortCue (c.set 8 0xE4) = .ignored ∧
    payloadStart (short 166) = some 175 ∧ sortCue (short 166) = .bad ∧ payloadStart (short 165) = some 174 ∧
    sortCue (short 165) = .accepted ⟨.out, 1001, some 10000000, none, false, 20⟩ ∧ payloadStart c = some 8 ∧
    sortCue (c.set 9 2) = .bad ∧ sortCue (cueCell 4 true) = .bad ∧ sortCue (longCue 1) = .bad ∧
    sortCue (longCue 0xFE) = .accepted ⟨.out, 1001, none, some 9, true, 20⟩ := by decide +kernel

/-- The counts and records of what is ignored, bad and lost: a queue of four under KEEP and under EARLIEST. -/
theorem witness_OutCuesJoinTheQueue_lost :
    let c := cueCell 1 true
    let lost (policy : FullPolicy) (bytes : List Byte) := (cued [1, 2, 3, 4] policy twoBindings).cueCell 5 bytes
    ((lost .keep (plain 500)).chan 5).counts.cueBad = 0 ∧ ((lost .keep (cueCell 4 true)).chan 5).counts.cueBad = 1 ∧ records (lost .keep c) = [[7, 5, 1]] ∧
    records (lost .earliest c) = [[7, 5, 2]] ∧ ((lost .earliest c).bindingTable 5)[7] = some ⟨some 20, 1, [7, 9]⟩ ∧
    ((lost .earliest c).chan 5).recent = [1001] := by decide +kernel

/-- Channel 5 holds these events, has no binding, and is as `f` makes it. -/
def unbound (events : List Nat) (f : Channel → Channel) : State :=
  (cued events .keep (Vector.replicate 8 none)).mapChan 5 f

/-- The event 1,001 plays; it is recent; no ingest video PTS has been seen. -/
def playing1001 (ch : Channel) : Channel := { ch with avail := some ⟨1001, 0, 9000000, none, false, [9], 0⟩ }
def recent1001 (ch : Channel) : Channel := { ch with recent := [1001] }
def unseenPts (ch : Channel) : Channel := { ch with ingestPts := none }

/-- Duplicates counted and CUE_BAD counted on channel 5. -/
def cueCounts (t : State) : List Nat := [(t.chan 5).counts.duplicates, (t.chan 5).counts.cueBad]

/-- IN cues with and without a time: of the event that plays, of the queued event, of a recent one and of none; and no ingest video PTS
to take a time from. -/
theorem witness_OutCuesJoinTheQueue_in :
    let inn (timed : Bool) (t : State) := t.cueCell 5 (cueCell 2 timed)
    sortCue (cueCell 2 true) = .accepted ⟨.inn, 1001, some 10000000, none, false, 20⟩ ∧
    sortCue (cueCell 2 false) = .accepted ⟨.inn, 1001, none, none, false, 20⟩ ∧
    ((unbound [1, 1001, 2] id).chan 5).queue = [queuedEvent 1] ++ queuedEvent 1001 :: [queuedEvent 2] ∧
    ((inn true (unbound [1] playing1001)).chan 5).avail.map CurrentAvail.ret = some (some (10000000, .cueIn)) ∧
    ((inn false (unbound [1, 1001, 2] id)).chan 5).queue.map AvailEvent.ret = [none, some 9500000, none] ∧
    cueCounts (inn true (unbound [] recent1001)) = [1, 0] ∧ cueCounts (inn true (unbound [1] id)) = [0, 1] ∧
    cueCounts (inn false (unbound [] unseenPts)) = [0, 1] := by decide +kernel

/-- CANCEL cues: of the queued event, of the event that plays with and without an ingest video PTS, of a recent event and of none. -/
theorem witness_OutCuesJoinTheQueue_cancel :
    let cancel (t : State) := t.cueCell 5 (cueCell 3 false)
    sortCue (cueCell 3 false) = .accepted ⟨.cancel, 1001, none, none, false, 20⟩ ∧
    ((cancel (unbound [1, 1001, 2] id)).chan 5).queue.map AvailEvent.event = [1, 2] ∧
    ((cancel (unbound [1, 1001, 2] id)).chan 5).recent = [1001] ∧ (cancel (unbound [1, 1001, 2] id)).log.sequence = 1 ∧
    ((cancel (unbound [1] playing1001)).chan 5).avail.map CurrentAvail.ret = some (some (9500000, .cueIn)) ∧
    cueCounts (cancel (unbound [] fun ch => unseenPts (playing1001 ch))) = [0, 1] ∧
    cueCounts (cancel (unbound [] recent1001)) = [1, 0] ∧ cueCounts (cancel (unbound [] id)) = [0, 1] := by decide +kernel

/-- A write of watched words under way, with the given bytes and treatment. -/
def watchedWrite (addr : Nat) (data : List Byte) (dir : DirectiveUnit) : State :=
  under (issued 7 .upstream true addr data.length data (full data.length)) (map.writeTreatment addr (full data.length))
    { base with dir := dir }

/-- A 256-byte write under way that brings this word, 60 bytes that are not enabled, and the first cell of a ring moved next to it. -/
def wordAndCell (addr : Nat) (word : List Byte) : State :=
  let m := { map with feedRings := map.feedRings.set 0 ⟨addr + 64, 300⟩ }
  let enables := full 4 ++ List.replicate 60 false ++ full 192
  under (issued 7 .upstream true addr 256 (word ++ List.replicate 60 0 ++ plain 300) enables) (m.writeTreatment addr enables)
    { base with map := some m }

/-- A whole tail word of 63 and of 64, and parts of either word; and a whole tail word with a ring's cell. -/
theorem witness_TailWritesAreTakenAndPartsCounted :
    let d := DirectiveUnit.reset
    [watchedWrite 0x300001000 [63, 0, 0, 0] d, watchedWrite 0x300001000 [64, 0, 0, 0] d, watchedWrite 0x300001003 [1] d,
      watchedWrite 0x310000402 [1] d].map (fun s => s.entries.map fun e => (e.write, e.treatment.tailWord, e.treatment.headWord)) =
      [[(true, .whole, .none)], [(true, .whole, .none)], [(true, .part, .none)], [(true, .none, .part)]] ∧
    (watchedWrite 0x300001000 [63, 0, 0, 0] d).bus.issuedTxn 7 =
      some (issued 7 .upstream true 0x300001000 4 [63, 0, 0, 0] (full 4)) ∧
    (after (.directiveTailWrite 7) (watchedWrite 0x300001000 [63, 0, 0, 0] d)).dir.tail = 63 ∧
    (after (.directiveTailWrite 7) (watchedWrite 0x300001000 [64, 0, 0, 0] d)).dir.ignoredTails = 1 ∧
    (after (.partialWatchedWrite 7) (watchedWrite 0x300001003 [1] d)).dir.ignoredTails = 1 ∧
    (after (.partialWatchedWrite 7) (watchedWrite 0x310000402 [1] d)).dir.ignoredHeads = 1 ∧
    ((wordAndCell 0x300001000 [63, 0, 0, 0]).entries.map Entry.treatment) = [⟨false, true, .whole, .none, none⟩] ∧
    (after (.directiveTailWrite 7) (wordAndCell 0x300001000 [63, 0, 0, 0])).dir.tail = 63 ∧
    ((after (.directiveTailWrite 7) (wordAndCell 0x300001000 [63, 0, 0, 0])).feed 0).written = 1 := by decide +kernel

/-- The head moves over exactly the published entries, over one too many, and, from a full ring, over all 64; and with a ring's cell. -/
theorem witness_HeadWritesGiveSlotsBack :
    let d : DirectiveUnit := { DirectiveUnit.reset with responseHead := 62, unconsumed := 3, published := 3 }
    let f : DirectiveUnit := { DirectiveUnit.reset with responseHead := 5, unconsumed := 64, published := 64 }
    let w (v : Byte) (d : DirectiveUnit) := watchedWrite 0x310000400 [v, 0, 0, 0] d
    (w 1 d).bus.issuedTxn 7 = some (issued 7 .upstream true 0x310000400 4 [1, 0, 0, 0] (full 4)) ∧
    (w 1 d).entries.map (fun e => (e.write, e.treatment.tailWord, e.treatment.headWord)) = [(true, .none, .whole)] ∧
    ((1 - 62 : Int) % 64).toNat = 3 ∧ ((2 - 62 : Int) % 64).toNat = 4 ∧
    (after (.responseHeadWrite 7) (w 1 d)).dir.published = 0 ∧ (after (.responseHeadWrite 7) (w 2 d)).dir.ignoredHeads = 1 ∧
    (after (.responseHeadWrite 7) (w 64 d)).dir.ignoredHeads = 1 ∧ (after (.responseHeadWrite 7) (w 5 f)).dir.published = 0 ∧
    ((wordAndCell 0x310000400 [1, 0, 0, 0]).entries.map Entry.treatment) = [⟨false, true, .none, .whole, none⟩] ∧
    (after (.responseHeadWrite 7) (wordAndCell 0x310000400 [1, 0, 0, 0])).dir.ignoredHeads = 1 ∧
    ((after (.responseHeadWrite 7) (wordAndCell 0x310000400 [1, 0, 0, 0])).feed 0).written = 1 := by decide +kernel

/-- Channel 5 has one ready read, of entry 50, with this answer. -/
def reading (a : Answer) (f : Channel → Channel) : State :=
  let s := (onNetwork 5 base).mapChan 5 fun ch => { f ch with ready := [⟨50, a⟩] }
  { s with entries := [⟨50, false, 9, 0x100000000, 192, { Treatment.pass with eligible := some 5 }⟩] }

/-- The in-flight entry of that read. -/
def readEntry : Entry := ⟨50, false, 9, 0x100000000, 192, { Treatment.pass with eligible := some 5 }⟩

/-- The state, source, windows and null count of channel 5 after its read has been taken. -/
def shows (s : State) : ChannelState × Source × List (Fin 48) × Nat :=
  let ch := (after (.takeRead 5) s).chan 5
  (ch.state, ch.source, ch.windows, ch.nullCount)

/-- The output cell answered last. -/
def lastCell (s : State) : List Byte :=
  match s.up.getLast? with
  | some ⟨_, .ok d⟩ => d
  | _ => []

theorem witness_ReadsAreTakenInTurn :
    let s := reading .error id
    let o := reading (.ok (plain 300)) fun _ => Channel.reset
    ((answeredReads.chan 5).inHand ≠ none) ∧ (base.chan 5).ready = [] ∧ (s.chan 5).inHand = none ∧ (s.chan 5).ready = [⟨50, .error⟩] ∧
    (s.entry 50).isSome = true ∧ (o.chan 5).state = .off ∧ (o.chan 5).ready = [⟨50, .ok (plain 300)⟩] ∧
    (after (.takeRead 5) s).up = [⟨9, .error⟩] ∧ (after (.takeRead 5) o).up = [⟨9, .ok (plain 300)⟩] := by decide +kernel

/-- Channel 5 in SUBST on L2 at this cursor, L2's writer at cell 7 with `written` cells written. -/
def onFeed (cursor : Option Stamp) (latest : Option (Stamp × Pts)) (written : Stamp) : State :=
  (reading (.ok (plain 300)) fun ch => { ch with state := .subst, source := .feed 2 cursor, outPts := some 777 }).mapFeed 2 fun t =>
    { t with written := written, next := 7, latest := latest }

/-- A waiting cursor without and with a latest entry, an underflow, a cursor that reads, and a lapped cursor without and with a latest
entry. -/
theorem witness_ReadsAreTakenInTurn_feed :
    let t (s : State) := after (.takeRead 5) s
    let src (s : State) := ((t s).chan 5).source
    (onFeed none none 20).takes 5 ⟨50, .ok (plain 300)⟩ [] readEntry
      (plain 300) ∧ (onFeed (some 19) none 20).feedHolds map 2 19 ∧ (onFeed (some 19) none 20).feedIndex map 2 19 6 ∧
    (onFeed none (some (5, 100)) 20).feedIndex map 2 5 292 ∧ (onFeed (some 19) (some (415, 100)) 420).feedIndex map 2 415 2 ∧
    entryPts (((onFeed none none 20).chan 5).pidOf .video) (plain 300) = none ∧ map.feedRings[2] = ⟨0x520000000, 300⟩ ∧
    300 ≤ ((420 : Stamp) - 19).toNat ∧
    src (onFeed none none 20) = .feed 2 none ∧ ((t (onFeed none none 20)).chan 5).counts.nulls = 1 ∧
    src (onFeed none (some (5, 100)) 20) = .feed 2 (some 6) ∧ ((t (onFeed none (some (5, 100)) 20)).chan 5).delta = 677 ∧
    ((t (onFeed (some 20) none 20)).chan 5).counts.underflows = 1 ∧
    ((t (onFeed (some 19) none 20)).bus.txns.map Txn.addr) = [0x520000000 + 192 * 6] ∧
    src (onFeed (some 19) none 420) = .feed 2 none ∧ ((t (onFeed (some 19) none 420)).chan 5).counts.slips = 1 ∧
    ((t (onFeed (some 19) (some (415, 100)) 420)).bus.txns.filterMap fun x => if x.cls = 1 then some x.addr else none) =
      [0x520000000 + 192 * 2] := by
  unfold State.takes State.feedHolds State.feedIndex
  decide +kernel

/-- An event of the id, with its pod on clip 9. -/
def eventAt (event : Nat) (time : Pts) : AvailEvent := ⟨event, time, some 900, true, 7, [9, 11], none⟩

/-- Channel 5 in this state at a network entry cell of PTS 9,000, with a late tolerance of 100, these events and windows 12 and 13. -/
def atEntry (st : ChannelState) (queue : List AvailEvent) (w : Window) (f : Channel → Channel) : State :=
  let s := reading (.ok (entryCell 9000)) fun ch => f { ch with
    state := st
    source := if st = .network then .network else if st = .subst ∨ st = .alert then .feed 1 none else .none
    config := { ch.config with lateTolerance := 100 }
    window := if st = .subst ∨ st = .alert then some 12 else none
    windows := [12, 13]
    queue := queue
    recent := [5, 6, 7, 8] }
  let s := (s.setWindow 12 (some w)).setWindow 13 (some ⟨5, 1, 9000, 9500, .scheduled⟩)
  (s.mapClip 9 fun _ => ready 10 0).mapClip 11 fun _ => { ready 20 1920 with p0 := some 5 }

/-- The records asked for, and then the queue and the windows, once the read has been taken. -/
def outcome (s : State) : List (List Nat) :=
  let t := after (.takeRead 5) s
  records t ++ [(t.chan 5).queue.map AvailEvent.event, (t.chan 5).windows.map Fin.val]

/-- Two due heads in SUBST with its window not yet over and in ALERT; and in ALERT the suspended window, over at this very cell. -/
theorem witness_ReadsAreTakenInTurn_retired :
    let q := [eventAt 1 100, eventAt 2 9000, eventAt 3 9001]
    let s := atEntry .subst q ⟨5, 1, 1, 9001, .active⟩ id
    s.takes 5 ⟨50, .ok (entryCell 9000)⟩ [] readEntry (entryCell 9000) ∧
    entryPts ((s.chan 5).pidOf .video) (entryCell 9000) = some 9000 ∧ atOrAfter 9000 9000 = true ∧ atOrAfter 9000 9001 = false ∧
    outcome s = [[5, 5, 5], [5, 5, 5], [3], [12, 13]] ∧
    outcome (atEntry .alert q ⟨5, 1, 1, 9001, .suspended⟩ id) = [[5, 5, 6], [5, 5, 6], [3], [12, 13]] ∧
    outcome (atEntry .alert [eventAt 3 9001] ⟨5, 1, 1, 9000, .suspended⟩ id) = [[9, 5, 1], [3], [13]] := by
  unfold State.takes
  decide +kernel

/-- A pending role with counter 5 and the PCR mark. -/
def pendingVideo (ch : Channel) : Channel :=
  { ch with continuity := ch.continuity.set 0 ⟨some 5, 0, true⟩, pcrMark := true }

/-- The cells of each clause: malformed, no role, a payload with a PCR, no payload. -/
theorem witness_NetworkCellsKeepContinuity :
    let pcr := cell 7 300 3 false none (some (9, 4))
    let bare := (plain 300).set 7 0x23#8
    let s := reading (.ok pcr) pendingVideo
    (s.chan 5).inHand = none ∧ (s.chan 5).ready = [⟨50, .ok pcr⟩] ∧ (s.entry 50).isSome = true ∧ pcr.length = 192 ∧
    (s.chan 5).state = .network ∧ (s.chan 5).source = .network ∧ entryPts ((s.chan 5).pidOf .video) pcr = none ∧
    wellFormed (pcr.set 4 0) = false ∧ roleOfPid (s.chan 5).config.roles (cellPid (plain 301)) = none ∧ wellFormed pcr = true ∧
    roleOfPid (s.chan 5).config.roles (cellPid pcr) = some .video ∧ pcrReadable pcr = true ∧ payloadBearing pcr = true ∧
    payloadBearing bare = false ∧ wellFormed bare = true ∧ entryPts ((s.chan 5).pidOf .video) bare = none ∧
    cellCc (lastCell (after (.takeRead 5) s)) = 6 ∧ cellByte (lastCell (after (.takeRead 5) s)) 9 = 0x90 ∧
    cellCc (lastCell (after (.takeRead 5) (reading (.ok bare) pendingVideo))) = 5 ∧
    cellCc (lastCell (after (.takeRead 5) (reading (.ok (plain 300)) id))) = 3 := by decide +kernel

/-- An event due exactly at the late tolerance, behind it nothing, and its clip READY. -/
theorem witness_DueAvailSplicesOut :
    let s := (reading (.ok (entryCell 9045000)) fun ch => { ch with queue := [queuedEvent 1001] }).mapClip 9 fun _ => ready 10 0
    (s.chan 5).inHand = none ∧ (s.chan 5).state = .network ∧ (s.chan 5).windows = [] ∧ (s.chan 5).queue = [queuedEvent 1001] ∧
    entryPts ((s.chan 5).pidOf .video) (entryCell 9045000) = some 9045000 ∧ atOrAfter 9045000 (queuedEvent 1001).time = true ∧
    forward 9045000 (queuedEvent 1001).time = (s.chan 5).config.lateTolerance ∧ (s.chan 5).clock.status = .steady ∧
    s.log.state = .open ∧ s.log.reserve ≤ (s.log.floor - s.log.fo - 16) / 32 ∧ (s.clip 9).cells ≠ 0 ∧ (s.clip 9).p0 = some 126000 ∧
    (let t := after (.takeRead 5) s
     (t.chan 5).state = .insert ∧ (t.chan 5).source = .clip 9 1 ∧ (t.chan 5).delta = 8919000 ∧ (t.clip 9).plays = 1 ∧
      t.log.sequence = 2) := by decide +kernel

/-- Channel 5 in NETWORK with windows 3 and 4 on L1, at a network entry cell of PTS 9,045,000. -/
def windowed (start stop : Pts) (latest : Option (Stamp × Pts)) : State :=
  let s := reading (.ok (entryCell 9045000)) fun ch => { ch with windows := [3, 4] }
  ((s.setWindow 3 (some ⟨5, 1, start, stop, .scheduled⟩)).setWindow 4 (some ⟨5, 1, 9045001, 9046000, .scheduled⟩)).mapFeed 1 fun t =>
    { t with written := 20, next := 3, latest := latest }

/-- What the clauses ask of these states. -/
theorem witness_DueAvailSplicesOut_states :
    (windowed 0 1 none).takes 5 ⟨50, .ok (entryCell 9045000)⟩ [] readEntry (entryCell 9045000) ∧
    ((windowed 0 1 none).chan 5).queue = [] ∧ (windowed 0 1 none).window 4 = some ⟨5, 1, 9045001, 9046000, .scheduled⟩ ∧
    atOrAfter 9045000 9045000 = true ∧ atOrAfter 9045000 9045001 = false ∧ isAfter 9045001 9045000 = true ∧
    (windowed 9045000 9045001 (some (15, 1000))).feedIndex map 1 15 298 ∧
    (windowed 9045000 9045001 (some (15, 1000))).feedHolds map 1 15 := by
  unfold State.takes State.feedHolds State.feedIndex
  decide +kernel

/-- Nothing due and no window; a window that has just ended; and one that covers N at its first tick, its feed without and with a latest
entry. -/
theorem witness_DueAvailSplicesOut_windows :
    shows (reading (.ok (entryCell 9045000)) id) = (.network, .network, [], 0) ∧
    shows (windowed 9000000 9045000 none) = (.network, .network, [4], 0) ∧
    (after (.takeRead 5) (windowed 9000000 9045000 none)).window 3 = none ∧
    shows (windowed 9045000 9045001 none) = (.subst, .feed 1 none, [3, 4], 0) ∧
    shows (windowed 9045000 9045001 (some (15, 1000))) = (.subst, .feed 1 (some 16), [3, 4], 0) ∧
    ((after (.takeRead 5) (windowed 9045000 9045001 (some (15, 1000)))).chan 5).delta = 9044000 := by decide +kernel

/-- Heads too late, on a clock not STEADY, and met by a closed log gate (FULL, or a room of 9), in NETWORK and in RETURN_WAIT; a head at
the tolerance that splices out with one behind it that is OVERLAP; a lapse, a window start without and with a latest entry, each with due
heads. -/
theorem witness_DueAvailSplicesOut_retired :
    let q := [eventAt 1 8899, eventAt 2 9001]
    let on := [eventAt 1 8900, eventAt 2 8899, eventAt 3 8900]
    let w : Window := ⟨5, 1, 9001, 9100, .scheduled⟩
    let unsteady (ch : Channel) : Channel := { ch with clock := ⟨.unsteady, some (0, 0), 0⟩ }
    let tight (floor : Nat) (st : LogState) : State :=
      let s := atEntry .network (on.take 1) w id
      { s with log := { s.log with floor := floor, state := st } }
    outcome (atEntry .network q w id) = [[5, 5, 1], [2], [12, 13]] ∧
    outcome (atEntry .returnWait q w id) = [[5, 5, 1], [2], [12, 13]] ∧
    outcome (atEntry .network (on.take 1) w unsteady) = [[5, 5, 2], [], [12, 13]] ∧
    outcome (tight 335 .open) = [[5, 5, 3], [], [12, 13]] ∧ outcome (tight 336 .open) = [[1, 5, 0], [3, 5, 0], [], [12, 13]] ∧
    outcome (tight 65536 .full) = [[], [12, 13]] ∧
    outcome (atEntry .network on w id) = [[1, 5, 0], [3, 5, 0], [5, 5, 4], [3], [12, 13]] := by decide +kernel

theorem witness_DueAvailSplicesOut_due :
    let q := [eventAt 1 8899, eventAt 2 9001]
    let covering := atEntry .network q ⟨5, 1, 9000, 9001, .scheduled⟩ id
    let written := covering.mapFeed 1 fun t => { t with written := 20, next := 3, latest := some (15, 1000) }
    outcome (atEntry .network q ⟨5, 1, 1, 9000, .scheduled⟩ id) = [[9, 5, 2], [8, 5, 2], [5, 5, 5], [2], [13]] ∧
    outcome covering = [[8, 5, 2], [5, 5, 5], [2], [12, 13]] ∧ outcome written = [[8, 5, 1], [5, 5, 5], [2], [12, 13]] ∧
    (written.feed 1).latest = some (15, 1000) ∧ covering.window 12 = some ⟨5, 1, 9000, 9001, .scheduled⟩ := by decide +kernel

/-- At the return limit less one and at the limit. -/
theorem witness_ReturnWaitGivesNullsThenReturns :
    let f (n : Nat) (ch : Channel) : Channel := { ch with state := .returnWait, source := .none, nullCount := n }
    let s (n : Nat) := reading (.ok (plain 301)) (f n)
    ((s 4095).chan 5).inHand = none ∧ ((s 4095).chan 5).ready = [⟨50, .ok (plain 301)⟩] ∧ ((s 4095).entry 50).isSome = true ∧
    wellFormed (plain 301) = true ∧ ((s 4095).chan 5).state = .returnWait ∧ ((s 4095).chan 5).source = .none ∧
    entryPts (((s 4095).chan 5).pidOf .video) (plain 301) = none ∧
    ((s 4095).chan 5).nullCount < ((s 4095).chan 5).config.returnLimit ∧
    ((s 4096).chan 5).config.returnLimit ≤ ((s 4096).chan 5).nullCount ∧
    ((after (.takeRead 5) (s 4095)).chan 5).nullCount = 4096 ∧ ((after (.takeRead 5) (s 4096)).chan 5).state = .network ∧
    lastCell (after (.takeRead 5) (s 4096)) = plain 301 := by decide +kernel

/-- Channel 5 plays cell `i` of clip 9 in this avail, its splice at 9,000,000. -/
def inserting (cell : List Byte) (ret : Option (Pts × ReturnKind)) (auto : Bool) (pod : List (Fin 64)) (i : Nat) : State :=
  let s := reading (.ok cell) fun ch => { ch with
    state := .insert
    source := .clip 9 i
    avail := some ⟨1001, 0, 9000000, ret, auto, pod, 0⟩
    clipAnchor := some 9000000
    outPts := some 9040000
    netPts := some 9010000 }
  (s.mapClip 9 fun _ => { ready 10 0 with plays := 2 }).mapClip 11 fun _ => { ready 20 1920 with p0 := some 5 }

/-- What the clauses ask of these states. -/
theorem witness_ReturnWaitGivesNullsThenReturns_states :
    let c := entryCell 9045000
    let due := inserting c (some (9045000, .cueIn)) false [9, 11] 3
    due.takes 5 ⟨50, .ok c⟩ [] readEntry c ∧ (due.chan 5).queue = [] ∧ (due.chan 5).windows = [] ∧
    (due.chan 5).config.maxBreak = 21600000 ∧ atOrAfter 9045000 (9000000 + BitVec.ofNat 33 21600000) = false ∧
    atOrAfter 30600000 (9000000 + BitVec.ofNat 33 21600000) = true ∧ (due.clip 9).duration = some 12012 ∧ (due.clip 9).cells = 10 := by
  unfold State.takes
  decide +kernel

/-- The returns CUE_IN, BREAK_END and TIMEOUT; and a return time still to come, at an entry cell and at another. -/
theorem witness_ReturnWaitGivesNullsThenReturns_returns :
    let c := entryCell 9045000
    let later (cell : List Byte) := inserting cell (some (9045001, .cueIn)) false [9, 11] 3
    shows (inserting c (some (9045000, .cueIn)) false [9, 11] 3) = (.network, .network, [], 0) ∧
    shows (inserting c (some (9045000, .breakEnd)) true [9, 11] 3) = (.network, .network, [], 0) ∧
    shows (inserting (entryCell 30600000) none false [9, 11] 3) = (.network, .network, [], 0) ∧
    shows (later c) = (.insert, .clip 9 4, [], 0) ∧ shows (later (plain 7)) = (.insert, .clip 9 4, [], 0) := by decide +kernel

/-- The next clip of a pod; and the end of a pod, SHORT and COMPLETE, at another cell and at an entry cell. -/
theorem witness_ReturnWaitGivesNullsThenReturns_pod :
    let later (cell : List Byte) (pod : List (Fin 64)) := inserting cell (some (9045001, .cueIn)) false pod 10
    shows (later (plain 7) [9, 11]) = (.insert, .clip 11 1, [], 0) ∧
    ((after (.takeRead 5) (later (plain 7) [9, 11])).chan 5).clipAnchor = some 9012012 ∧
    ((after (.takeRead 5) (later (plain 7) [9, 11])).clip 11).plays = 1 ∧
    shows (later (plain 7) [9]) = (.returnWait, .none, [], 1) ∧
    shows (inserting (plain 7) none false [9] 10) = (.returnWait, .none, [], 1) ∧
    shows (later (entryCell 9045000) [9]) = (.network, .network, [], 0) ∧
    shows (inserting (entryCell 9045000) (some (9045000, .breakEnd)) false [9] 10) = (.network, .network, [], 0) := by decide +kernel

/-- An entry cell in RETURN_WAIT, and one in SUBST at the end of the window, behind which another stands. -/
theorem witness_ReturnWaitGivesNullsThenReturns_entry :
    let c := entryCell 9045000
    let t (s : State) := after (.takeRead 5) s
    let waits := reading (.ok c) fun ch => { ch with state := .returnWait, source := .none, nullCount := 9 }
    let ends := ((reading (.ok c) fun ch => { ch with state := .subst, source := .feed 1 (some 4), window := some 3, windows := [3, 4] }).setWindow 3
      (some ⟨5, 1, 1, 9045000, .active⟩)).setWindow 4 (some ⟨5, 1, 9045000, 9046000, .scheduled⟩)
    ends.takes 5 ⟨50, .ok c⟩ [] readEntry c ∧
    (waits.chan 5).windows = [] ∧ (ends.chan 5).queue = [] ∧ ends.window 3 = some ⟨5, 1, 1, 9045000, .active⟩ ∧
    atOrAfter 9045000 9045000 = true ∧ ((t waits).chan 5).state = .network ∧ ((t ends).chan 5).state = .network ∧
    ((t ends).chan 5).windows = [4] ∧ ((t ends).chan 5).window = none ∧ (t ends).window 3 = none ∧ (t ends).log.sequence = 1 := by
  unfold State.takes
  decide +kernel

/-- With due heads: a malformed cell below the limit and at it; a return from RETURN_WAIT; an avail's return; an OVERLAP in INSERT; a clip
change at an entry cell; a pod's end at one; and a window's end, behind which the next window covers N. -/
theorem witness_ReturnWaitGivesNullsThenReturns_due :
    let bad := (plain 300).set 4 0
    let waits (n : Nat) := reading (.ok bad) fun ch => { ch with state := .returnWait, source := .none, nullCount := n }
    let head := eventAt 1 9044000
    let insert (ret : Option (Pts × ReturnKind)) (pod : List (Fin 64)) (i : Nat) (tolerance : Nat) :=
      (inserting (entryCell 9045000) ret false pod i).mapChan 5 fun ch =>
        { ch with queue := [head], config := { ch.config with lateTolerance := tolerance } }
    ((after (.takeRead 5) (waits 4095)).chan 5).counts.malformed = 1 ∧ lastCell (after (.takeRead 5) (waits 4096)) = bad ∧
    outcome (atEntry .returnWait [eventAt 1 8900] ⟨5, 1, 9001, 9100, .scheduled⟩ id) = [[1, 5, 0], [3, 5, 0], [], [12, 13]] ∧
    outcome (insert (some (9045000, .cueIn)) [9, 11] 3 999) = [[4, 5, 2], [2, 5, 4], [5, 5, 1], [], []] ∧
    outcome (insert none [9, 11] 3 999) = [[5, 5, 4], [], []] ∧
    outcome (insert none [9, 11] 10 1000) = [[4, 5, 1], [3, 5, 0], [1], []] ∧
    outcome (insert none [9] 10 1000) = [[4, 5, 1], [2, 5, 1], [1, 5, 0], [3, 5, 0], [], []] ∧
    outcome (atEntry .subst [eventAt 1 8900] ⟨5, 1, 1, 9000, .active⟩ id) = [[9, 5, 1], [1, 5, 0], [3, 5, 0], [], [13]] := by
  decide +kernel

/-- Channel 5 waits for the source read 7, of clip 9 or of feed L2; the entry of the read in hand is 50. -/
def awaiting (kind : SourceKind) (orphaned : Bool) : State :=
  let s := (onNetwork 5 base).mapChan 5 fun ch => { ch with
    state := .insert
    source := .clip 9 3
    avail := some ⟨1001, 0, 9000000, none, false, [9], 0⟩
    delta := 1000
    inHand := some ⟨50, plain 300, 7, orphaned⟩ }
  let s := (s.mapClip 9 fun _ => { ready 10 0 with plays := 1 }).mapFeed 2 fun t => { t with roles := roles }
  { s with
    entries := [⟨50, false, 9, 0x100000000, 192, { Treatment.pass with eligible := some 5 }⟩]
    bus := { s.bus with txns := [issued 7 (.sourceRead 5 kind) false 0x400000000 192 [] []], next := 8 } }

/-- The hypotheses, and each clause: orphaned, a feed's ERROR, a clip's ERROR, a malformed cell, a cell on a role. -/
theorem witness_SourceCellsAreRewritten :
    let s := awaiting (.clip 9) false
    let f := awaiting (.feed 2) false
    let video := cell 8 100 3 true (some 126000) (some (117000, 150))
    s.bus.issuedTxn 7 = some (issued 7 (.sourceRead 5 (.clip 9)) false 0x400000000 192 [] []) ∧
    f.bus.issuedTxn 7 = some (issued 7 (.sourceRead 5 (.feed 2)) false 0x400000000 192 [] []) ∧
    (s.chan 5).inHand = some ⟨50, plain 300, 7, false⟩ ∧ (s.entry 50).isSome = true ∧ (s.chan 5).source = .clip 9 3 ∧
    (s.chan 5).avail.isSome = true ∧ ((awaiting (.clip 9) true).chan 5).inHand = some ⟨50, plain 300, 7, true⟩ ∧
    ((s.clip 9).map.find? fun p => p.1 = cellPid video).map Prod.snd = some .video ∧ (s.chan 5).pidOf .video = some 300 ∧
    roleOfPid (f.feed 2).roles (cellPid (plain 300)) = some .video ∧ roleOfPid (f.feed 2).roles (cellPid video) = none ∧
    wellFormed (video.set 4 0) = false ∧ wellFormed video = true ∧
    ((after (.clipCellArrival 7 .error) s).chan 5).state = .returnWait ∧ ((after (.clipCellArrival 7 .error) s).clip 9).plays = 0 ∧
    ((after (.feedCellArrival 7 .error) f).chan 5).counts.readErrors = 1 ∧
    (let out := lastCell (after (.clipCellArrival 7 (.ok video)) s)
     cellPid out = 300 ∧ readPts out = some 127000 ∧ readPcr out = some (118000 * 300 + 150) ∧ out.take 4 = (plain 300).take 4) := by
  decide +kernel

/-- The records that a clip's ERROR makes: CLIP_END MEMORY_ERROR of clip 9 with 3 cells taken of 10, and AVAIL_END MEMORY_ERROR of event
1001 with O 9,000,123 after the splice-out at 9,000,000, and with O absent. -/
theorem witness_SourceCellsAreRewritten_records :
    let records (o : Option Pts) := (after (.clipCellArrival 7 .error)
      ((awaiting (.clip 9) false).mapChan 5 fun ch => { ch with outPts := o })).bus.txns.map fun x =>
        (leField x.data 0 1, leField x.data 2 1, leField x.data 12 4, leField x.data 16 4, leField x.data 20 4)
    records (some 9000123) = [(4, 3, 9, 3, 10), (2, 7, 1001, 9000123, 123)] ∧ records none = [(4, 3, 9, 3, 10), (2, 7, 1001, 0, 0)] := by
  decide +kernel

/-- A cell with a PTS and a PCR, and the same with a DTS of 0 behind the PTS. -/
theorem witness_RebasingMovesEveryTimestamp :
    let c := cell 8 100 3 true (some 8589934591) (some (8589934591, 299))
    let d := c.take 23 ++ [0xC0#8, 10] ++ slice c 25 5 ++ [0x11, 0, 1, 0, 1] ++ c.drop 35
    c.length = 192 ∧ readPts c = some 8589934591 ∧ readPts (rebase c 2) = some 1 ∧ readPcr (rebase c 2) = some 599 ∧
      readPts (plain 300) = none ∧ readPcr (plain 300) = none ∧ ptsPayload c = some 16 ∧ dtsPayload c = none ∧ pcrReadable c = true ∧
      dtsPayload d = some 16 ∧ readDts d = some 0 ∧ readDts (rebase d 2) = some 2 ∧ slice (rebase d 2) 30 6 = [0x11, 0, 1, 0, 5, 0xAA] := by
  decide +kernel

/-- The unit may fetch at U + Q = 63 and not at 64. -/
def fetching (owed : Nat) : State :=
  { base with dir := { DirectiveUnit.reset with head := 63, tail := 0, owed := owed, unconsumed := 60 } }

theorem witness_DirectiveFetchReadsTheHeadSlot :
    (fetching 3).map = some map ∧ (fetching 3).boot = .running ∧ (fetching 3).dir.head ≠ (fetching 3).dir.tail ∧
    (fetching 3).dir.unconsumed + (fetching 3).dir.owed < 64 ∧ (fetching 3).dir.fetching = false ∧ (fetching 3).dir.dispatched = none ∧
    64 ≤ (fetching 4).dir.unconsumed + (fetching 4).dir.owed ∧
    (after .directiveFetch (fetching 3)).bus.txns.map Txn.addr = [0x300000FC0] ∧ after .directiveFetch (fetching 4) = fetching 4 := by
  decide +kernel

/-- Records of kinds 0 to 16, whose bytes from offset 4 on count up from 1; the fields are read off section 11.3. -/
theorem witness_FetchedDirectivesAreDispatched :
    let s := under (issued 7 (.directiveFetch 63) false 0x300000FC0 64 [] []) Treatment.pass (fetching 3)
    let r (kind : Nat) : List Byte := [5, 0, BitVec.ofNat 8 kind, 0] ++ (List.range 60).map fun i => BitVec.ofNat 8 (i + 1)
    let handed (kind : Nat) := (after (.fetchComplete 7 (.ok (r kind))) s).dir.dispatched
    s.bus.issuedTxn 7 = some (issued 7 (.directiveFetch 63) false 0x300000FC0 64 [] []) ∧
    (List.range 17).map (fun k => leField (r k) 2 1) = List.range 17 ∧
    handed 3 = some (.clipFree 5 63 1) ∧ handed 5 = some (.unbind 5 63 1 0x0403) ∧
    handed 4 = some (.bind 5 63 ⟨1, 2, 0x0403, 5, [6, 7, 8, 9]⟩) ∧ handed 6 = some (.availAbort 5 63 1 0x08070605) ∧
    handed 7 = some (.windowAdd 5 63 ⟨1, 2, 3, 0x0C0B0A0908070605, 0x14131211100F0E0D⟩) ∧
    handed 10 = some (.alertSend 5 63 ⟨0x0201, 3, 4, 5, 0x0807⟩) ∧ handed 15 = some (.status 5 63 1 2 0x0C0B0A0908070605) ∧
    (after (.fetchComplete 7 (.ok (r 6))) s).dir.head = 0 ∧ lastResponse (after (.fetchComplete 7 (.ok (r 16))) s) = [16, 7, 0, 63] ∧
    lastResponse (after (.fetchComplete 7 .error) s) = [0xFF, 8, 0, 63] := by decide +kernel

theorem witness_ResponsesAreWrittenAndPublished :
    let e := under (issued 7 .responseEntry true 0x310000000 16 [] []) Treatment.pass base
    let t := under (issued 7 .responseTail true 0x310000410 4 [] []) Treatment.pass base
    base.map = some map ∧ e.bus.issuedTxn 7 = some (issued 7 .responseEntry true 0x310000000 16 [] []) ∧
    t.bus.issuedTxn 7 = some (issued 7 .responseTail true 0x310000410 4 [] []) ∧
    (after (.responseEntryWriteComplete 7 .error) e).dir.writeErrors = 1 ∧ (after (.responseTailWriteComplete 7 (.ok [])) t).attn = true := by
  decide +kernel

/-- A CHANNEL_SET of channel 5 that gives VIDEO the PID and every limit the value. -/
def setChannel (pid limit : Nat) : ChannelSetFields :=
  ⟨5, 1, [pid, 0xFFFF, 0xFFFF, 0xFFFF, 0xFFFF, 0xFFFF], 500, 1, limit, limit, limit, limit⟩

/-- The configuration it stores. -/
def configured (pid late brk ret clock : Nat) : ChannelConfig :=
  ⟨RoleMap.absent.set 0 (some pid), some 500, .earliest, late, brk, ret, clock⟩

/-- Channel 5 OFF while an alert on A1 has it in its target set, whose feed has an entry. -/
def alerted (set : ChannelMask) : State := { base with
  alerts := { AlertControl.reset with
    current := some ⟨4412, 1, .host, 2, 1, none, .active, some set, some 0⟩ } }.mapFeed 5 fun t => { t with latest := some (7, 500000) }

/-- The hypotheses for an enable, with limits at both clamps and at the default, of a channel that is OFF, in NETWORK with the same and
with another VIDEO PID, and in the current alert's target set. -/
theorem witness_ChannelSetEnablesOrReconfigures :
    let run (pid limit : Nat) (s : State) := taken (.channelSet 0 0 (setChannel pid limit)) s
    let on := onNetwork 5 base
    base.channelRing 5 = some ⟨0x100000000, 4096⟩ ∧ (base.chan 5).state = .off ∧ base.alerts.current = none ∧
    (roleMapOf (setChannel 300 0).pids) = (configured 300 0 0 0 0).roles ∧
    (∀ i : Fin 6, ∀ p ∈ (roleMapOf (setChannel 8190 0).pids)[i], p ≤ 8190) ∧ (on.chan 5).state = .network ∧
    (on.chan 5).config.roles[(0 : Fin 6)] = some 300 ∧ (on.chan 5).clock.status = .steady ∧ (on.chan 5).clock.last = some (1000, 1000) ∧
    ((alerted 32).alerts.current.map AlertContext.target) = some (some 32) ∧ (32 : ChannelMask).getLsbD 5 = true ∧
    (16 : ChannelMask).getLsbD 5 = false ∧
    ((run 300 0 base).chan 5).config = configured 300 0 90000 64 2700 ∧
    ((run 8190 0xFFFFFFFE base).chan 5).config = configured 8190 900000 108000000 65535 27000000 ∧
    ((run 300 0xFFFFFFFF base).chan 5).config = configured 300 45000 21600000 4096 270000 ∧
    ((run 300 0 on).chan 5).clock.status = .steady ∧ ((run 301 0 on).chan 5).clock = ClockTracker.reset ∧ (run 301 0 on).log.sequence = 1 ∧
    ((run 300 0 (alerted 32)).chan 5).state = .alert ∧ ((run 300 0 (alerted 32)).chan 5).source = .feed 5 (some 7) ∧
    (run 300 0 (alerted 32)).bus.txns.map (fun x => x.data.take 3) = [[10, 5, 3], [0, 0, 1]] ∧
    ((run 300 0 (alerted 16)).chan 5).state = .network := by decide +kernel

theorem windowsListed_iff (s : State) : s.windowsListed ↔ ∀ c : Fin 32, (s.chan c).windows.Nodup ∧
    (∀ id : Fin 48, id ∈ (s.chan c).windows ↔ (s.window id).any (fun w => decide (w.channel = c)) = true) ∧
    ∀ id ∈ (s.chan c).window, id ∈ (s.chan c).windows := by
  simp [State.windowsListed, Option.any_eq_true]

/-- Channel 4 in SUBST with its ACTIVE window 12, and its SCHEDULED window 13. -/
def substituted : State :=
  let s := ((onNetwork 4 base).mapChan 4 fun ch => { ch with
    state := .subst
    source := .feed 1 (some 5)
    window := some 12
    windows := [12, 13] }).setWindow 12 (some (window 60000000 63000000 .active))
  s.setWindow 13 (some (window 64000000 64500000 .scheduled))

theorem substituted_listed : substituted.windowsListed := by
  rw [windowsListed_iff]
  decide +kernel

theorem base_listed : base.windowsListed := by
  rw [windowsListed_iff]
  decide +kernel

/-- A channel number of 32; enable 0 of an OFF channel; a channel in SUBST; no ring, a policy of 2, a PID of 8,191, a PID twice, a cue
PID of 8,191; and the disable of channels in INSERT and in SUBST. -/
theorem witness_ChannelSetRefusesOrDisables :
    let run (f : ChannelSetFields) (s : State) := lastResponse (taken (.channelSet 0 0 f) s)
    let f := setChannel 300 0
    let insert := awaiting (.clip 9) false
    substituted.windowsListed ∧ base.windowsListed ∧
    [run { f with channel := 32 } base, run { f with enable := 0 } base, run { f with channel := 4 } substituted,
      run { f with channel := 31 } base, run { f with policy := 2 } base, run (setChannel 8191 0) base, run (setChannel 0xFFFF 0) base,
      run { f with pids := [300, 300, 0xFFFF, 0xFFFF, 0xFFFF, 0xFFFF] } base, run { f with cuePid := 8191 } base] =
      [[1, 1, 0, 0], [1, 0, 0, 0], [1, 2, 0, 0], [1, 1, 0, 0], [1, 1, 0, 0], [1, 1, 0, 0], [1, 1, 0, 0], [1, 1, 0, 0], [1, 1, 0, 0]] ∧
    (insert.chan 5).state = .insert ∧ (insert.chan 5).source = .clip 9 3 ∧
    ((taken (.channelSet 0 0 { f with enable := 0 }) insert).chan 5).state = .off ∧
    ((taken (.channelSet 0 0 { f with enable := 0 }) insert).clip 9).plays = 0 ∧
    (taken (.channelSet 0 0 { f with channel := 4, enable := 0 }) substituted).window 13 = none ∧
    (taken (.channelSet 0 0 { f with channel := 4, enable := 0 }) substituted).log.sequence = 2 :=
  ⟨substituted_listed, base_listed, by decide +kernel⟩

/-- The records of a disable: of a clip and an avail that play, of two queued events and of two windows. -/
theorem witness_ChannelSetRefusesOrDisables_records :
    let s := (awaiting (.clip 9) false).mapChan 5 fun ch => { ch with queue := [queuedEvent 1, queuedEvent 2], windows := [20, 21] }
    let s := (s.setWindow 20 (some ⟨5, 1, 1, 2, .scheduled⟩)).setWindow 21 (some ⟨5, 1, 3, 4, .scheduled⟩)
    let f := { setChannel 300 0 with channel := 5, enable := 0 }
    s.windowsListed ∧ records (taken (.channelSet 0 0 f) s) = [[4, 5, 2], [2, 5, 9], [5, 5, 8], [5, 5, 8], [9, 5, 4], [9, 5, 4]] := by
  refine ⟨?_, by decide +kernel⟩
  rw [windowsListed_iff]
  decide +kernel

/-- The boundary values of each range; the clip that meets another; VERIFYING at once, behind another, and behind the read of a pass
that CLIP_FREE ended. -/
theorem witness_ClipLoadIsTestedAndQueued :
    let run (f : ClipLoadFields) (s : State) := lastResponse (taken (.clipLoad 0 0 f) s)
    let f := loadFields
    let two (a b : Nat × Nat) : ClipLoadFields := { f with mapCount := 2, entries := a :: b :: List.replicate 6 (0, 0) }
    let busy := base.mapClip 9 fun _ => { Clip.reset with state := .verifying, base := 0x400100000, cells := 4 }
    let stale := under (issued 7 (.verify 9) false 0x400100000 192 [] []) Treatment.pass base
    [run { f with clip := 64 } base, run { f with cells := 0 } base, run { f with cells := 1048577 } base, run { f with base := 0x400000020 } base,
      run { f with base := 0x3FFFFFFC0 } base, run { f with base := 0x400FFFD40 } base, run { f with mapCount := 0 } base,
      run { f with mapCount := 9 } base, run (two (8191, 0) (101, 1)) base, run (two (100, 0) (101, 6)) base, run (two (100, 1) (101, 2)) base,
      run (two (100, 0) (100, 1)) base, run (two (100, 0) (101, 0)) base] = List.replicate 13 [2, 1, 0, 0] ∧
    base.map = some map ∧ (base.clip 5).state = .free ∧ (∀ k : Fin 64, (base.clip k).state ≠ .verifying) ∧ base.verifyQueue = [] ∧
    base.bus.txns = [] ∧ stale.bus.txns.map Txn.owner = [.verify 9] ∧ (taken (.clipLoad 0 0 f) base).verifyRead = some 0 ∧
    ((taken (.clipLoad 0 0 { f with base := 0x400FFFD00 }) base).clip 5).state = .verifying ∧ (busy.clip 9).state = .verifying ∧
    (taken (.clipLoad 0 0 f) busy).verifyQueue = [5] ∧ ((taken (.clipLoad 0 0 f) busy).clip 5).state = .queued ∧
    ((taken (.clipLoad 0 0 f) stale).clip 5).state = .verifying ∧ (taken (.clipLoad 0 0 f) stale).bus.txns.length = 1 ∧
    (taken (.clipLoad 0 0 f) stale).verifyRead = none := by decide +kernel

/-- Clip 7 of two cells is VERIFYING at `cursor`, the read 7 of its cell under way. -/
def verifying (cursor : Nat) (crc : BitVec 32) : State :=
  let s := under (issued 7 (.verify 7) false (0x400000000 + 192 * cursor) 192 [] []) Treatment.pass base
  { s with verifyRead := some 7 }.mapClip 7 fun _ => { ready 2 0 with
    state := .verifying
    cursor := cursor
    crc := 0xFFFFFFFF
    expectedCrc := crc
    duration := none
    owed := some ⟨5, 9⟩ }

theorem verifying_one (cursor : Nat) (crc : BitVec 32) : (verifying cursor crc).oneVerifies := by
  have hs : ∀ n : Fin 64, ((verifying cursor crc).clip n).state = if n = 7 then .verifying else .free := by
    intro n
    simp only [verifying, State.mapClip, State.clip, under, base, State.reset, Fin.getElem_fin, Vector.getElem_set]
    by_cases h : n = 7
    · subst h; rfl
    · have : (7 : Fin 64).val ≠ n.val := fun e => h (Fin.ext e.symm)
      simp only [this, if_false, h, Vector.getElem_replicate, Clip.reset]
  refine ⟨?_, .nil, ?_, fun h => absurd rfl h, ?_, ?_, Nat.le_refl 1, fun _ => ⟨_, List.mem_singleton.2 rfl, rfl⟩⟩
  · intro n k hn hk
    rw [hs] at hn hk
    split at hn <;> split at hk <;> simp_all
  · intro n
    rw [hs]
    constructor
    · intro h; cases h
    · intro h; split at h <;> cases h
  · intro x hx _
    refine ⟨7, ?_, by rw [hs]; rfl⟩
    simp only [verifying, State.mapClip, under, List.mem_singleton] at hx
    rw [hx]; rfl
  · intro id hid
    simp only [verifying, State.mapClip, under, Option.some.injEq] at hid
    subst hid
    exact Nat.lt_succ_self 7

/-- The state above; ERROR and a malformed cell; cell 0 of 2 goes on; cell 1 of 2 completes a good pass. -/
theorem witness_VerificationReadsEndOrGoOn :
    let c := (plain 101).take 24
    let good := verifying 1 (crc32Fold 0xFFFFFFFF (slice c 4 188))
    (verifying 1 0).oneVerifies ∧
    (verifying 1 0).bus.issuedTxn 7 = some (issued 7 (.verify 7) false 0x4000000C0 192 [] []) ∧
    (verifying 1 0).verifyRead = some 7 ∧ (verifying 1 0).verifyQueue = [] ∧
    ((verifying 1 0).clip 7).owed = some ⟨5, 9⟩ ∧ wellFormed (c.set 4 0) = false ∧
    ((after (.verifyReadComplete 7 .error) (verifying 1 0)).clip 7).failure = some .memoryError ∧
    ((after (.verifyReadComplete 7 (.ok (c.set 4 0))) (verifying 1 0)).clip 7).failure = some .badCell ∧
    ((after (.verifyReadComplete 7 (.ok c)) (verifying 1 0)).clip 7).failure = some .crcMismatch ∧
    ((after (.verifyReadComplete 7 (.ok c)) (verifying 0 0)).clip 7).cursor = 1 ∧
    ((after (.verifyReadComplete 7 (.ok c)) good).clip 7).state = .ready ∧
    ((after (.verifyReadComplete 7 (.ok c)) good).clip 7).duration = some 12012 ∧
    lastResponse (after (.verifyReadComplete 7 (.ok c)) good) = [2, 0, 0, 9] :=
  ⟨verifying_one 1 0, by decide +kernel⟩

/-- NO_ENTRY, TIMING below and above the range, before P0 and NO_CLOCK; NO_ENTRY and TIMING after the last cell; the values that a cell gives a
pass that goes on; and a read of a pass that CLIP_FREE ended, alone and with a pass that waits for it. -/
theorem witness_VerificationReadsEndOrGoOn_cells :
    let video (p : Nat) (entry : Bool) := (cell 7 100 3 entry (some p) none).take 24
    let clock := (cell 7 100 3 false none (some (5, 6))).take 24
    let s (f : Clip → Clip) := (verifying 1 0).mapClip 7 f
    let no (x : Clip) : Clip := { x with p0 := none, period := none, pMax := none, firstPcr := none }
    let early (x : Clip) : Clip := { x with period := none, pMax := some 126000, firstPcr := none }
    let on (x : Clip) : Clip := { early x with cells := 9 }
    let run (cell : List Byte) (s : State) := (after (.verifyReadComplete 7 (.ok cell)) s).clip 7
    let stale : State := { verifying 1 0 with verifyRead := none }
    entryPts (some 100) ((plain 100).take 24) = none ∧ entryPts (some 100) (video 55 true) = some 55 ∧ (125999 - 126000 : Pts).toNat = 2 ^ 33 - 1 ∧
    readPts clock = none ∧ readPcr clock = some 1506 ∧ stale.verifyRead ≠ some 7 ∧ ((stale.mapClip 7 fun _ => Clip.reset).clip 7).state = .free ∧
    (run ((plain 100).take 24) (s no)).failure = some .noEntry ∧ (run ((plain 101).take 24) (s no)).failure = some .noEntry ∧
    (run (video 126000 false) (s early)).failure = some .timing ∧ (run (video 135001 false) (s early)).failure = some .timing ∧
    (run (video 125999 false) (s id)).failure = some .timing ∧ (run ((plain 101).take 24) (s early)).failure = some .timing ∧
    (run ((plain 101).take 24) (s fun x => { x with firstPcr := none })).failure = some .noClock ∧
    (run (video 55 true) (s fun x => { no x with cells := 9 })).p0 = some 55 ∧ (run clock (s on)).firstPcr = some 1506 ∧
    (run (video 135000 false) (s on)).period = some 9000 ∧ (run (video 126001 false) (s on)).pMax = some 126001 ∧
    (after (.verifyReadComplete 7 .error) stale).verifyRead = some 8 ∧
    (after (.verifyReadComplete 7 .error) (stale.mapClip 7 fun _ => Clip.reset)).bus.txns = [] := by decide +kernel

/-- Clip 9 READY and named by nothing; playing; in a playing pod; bound; queued; and clips QUEUED and VERIFYING with a load owed, whose
cancel leaves the read 7 outstanding, with and without a clip in the queue. -/
theorem witness_ClipFreeReleasesOrRefuses :
    let run (s : State) := lastResponse (taken (.clipFree 0 0 9) s)
    let s := base.mapClip 9 fun _ => ready 10 0
    let queued := { (verifying 0 0) with verifyQueue := [9] }.mapClip 9 fun _ => { Clip.reset with state := .queued, owed := some ⟨6, 10⟩ }
    lastResponse (taken (.clipFree 0 0 64) base) = [3, 1, 0, 0] ∧ run base = [3, 2, 0, 0] ∧ run s = [3, 0, 0, 0] ∧
    run (s.mapClip 9 fun x => { x with plays := 1 }) = [3, 3, 1, 0] ∧
    run ((awaiting (.clip 9) false).mapClip 9 fun x => { x with plays := 0 }) = [3, 3, 2, 0] ∧
    run (s.setBindings 3 twoBindings) = [3, 3, 3, 0] ∧
    run (s.mapChan 3 fun ch => { ch with queue := [queuedEvent 1] }) = [3, 3, 4, 0] ∧
    ((verifying 0 0).clip 7).owed = some ⟨5, 9⟩ ∧ ((verifying 0 0).clip 7).state = .verifying ∧ (queued.clip 9).owed = some ⟨6, 10⟩ ∧
    (taken (.clipFree 0 0 7) (verifying 0 0)).verifyRead = none ∧ (taken (.clipFree 0 0 9) queued).verifyQueue = [] ∧
    ((taken (.clipFree 0 0 7) (verifying 0 0)).bus.txns.filterMap fun x => x.data[3]?) = [5, 0] ∧
    ((taken (.clipFree 0 0 7) queued).clip 9).state = .verifying ∧ (taken (.clipFree 0 0 7) queued).verifyQueue = [] ∧
    ((taken (.clipFree 0 0 7) queued).bus.txns.filter fun x => x.owner.verifies).map Txn.id = [7] ∧
    (after (.verifyReadComplete 7 .error) (taken (.clipFree 0 0 7) queued)).verifyRead.isSome = true := by decide +kernel

/-- A full table of keys 0 to 7. -/
def fullTable : Vector (Option Binding) 8 := Vector.ofFn fun i : Fin 8 => some ⟨some i.val, 0, [7]⟩

/-- The ranges at their ends; a pod with a clip that is not READY; the key's slot, an empty slot, and a full table. -/
theorem witness_BindStoresInItsKeysSlot :
    let run (f : BindFields) (s : State) := lastResponse (taken (.bind 0 0 f) s)
    let f : BindFields := ⟨3, 1, 255, 2, [7, 64, 64, 64]⟩
    let s := base.mapClip 7 fun _ => ready 10 0
    let t := s.setBindings 3 fullTable
    [run { f with channel := 32 } s, run { f with key := 256 } s, run { f with key := 0xFFFE } s, run { f with podLength := 0 } s,
      run { f with podLength := 5 } s, run { f with podLength := 2 } s] = List.replicate 6 [4, 1, 0, 0] ∧
    run f base = [4, 2, 0, 0] ∧ run f t = [4, 4, 0, 0] ∧ (∀ i : Fin 8, fullTable[i] ≠ none) ∧
    (∀ i : Fin 8, ∀ b ∈ fullTable[i], b.key ≠ some 255) ∧ (∀ j : Fin 8, ∀ b ∈ fullTable[j], b.key = some 7 → j = 7) ∧
    ((taken (.bind 0 0 f) s).bindingTable 3)[0] = some ⟨some 255, 2, [7]⟩ ∧
    ((taken (.bind 0 0 { f with key := 0xFFFF }) s).bindingTable 3)[0] = some ⟨none, 2, [7]⟩ ∧
    ((taken (.bind 0 0 { f with key := 7 }) t).bindingTable 3)[7] = some ⟨some 7, 2, [7]⟩ := by decide +kernel

theorem witness_UnbindEmptiesItsKeysSlot :
    let run (c k : Nat) (s : State) := lastResponse (taken (.unbind 0 0 c k) s)
    let t := base.setBindings 3 twoBindings
    [run 32 0 t, run 3 256 t, run 3 0xFFFE t, run 3 255 t, run 3 20 t, run 3 0xFFFF t] =
      [[5, 1, 0, 0], [5, 1, 0, 0], [5, 1, 0, 0], [5, 2, 0, 0], [5, 0, 0, 0], [5, 0, 0, 0]] ∧
    (t.bindingTable 3)[0] = some ⟨none, 1, [9]⟩ ∧ (t.bindingTable 3)[7] = some ⟨some 20, 2, [7, 9]⟩ ∧
    (∀ i : Fin 8, ∀ b ∈ (t.bindingTable 3)[i], b.key ≠ some 255) ∧
    (∀ j : Fin 8, ∀ b ∈ (t.bindingTable 3)[j], b.key = none → j = 0) ∧
    ((taken (.unbind 0 0 3 20) t).bindingTable 3)[7] = none := by decide +kernel

theorem witness_AvailAbortEndsTheAvail :
    let s := awaiting (.clip 9) false
    let run (c e : Nat) := lastResponse (taken (.availAbort 0 0 c e) s)
    [run 32 1001, run 4 1001, run 5 1002, run 5 1001] = [[6, 1, 0, 0], [6, 2, 1, 0], [6, 2, 2, 0], [6, 0, 0, 0]] ∧
    (s.chan 5).state = .insert ∧ (s.chan 5).avail = some ⟨1001, 0, 9000000, none, false, [9], 0⟩ ∧ (s.chan 5).source = .clip 9 3 ∧
    ((taken (.availAbort 0 0 5 1001) s).chan 5).state = .returnWait ∧ ((taken (.availAbort 0 0 5 1001) s).chan 5).recent = [1001] ∧
    (((taken (.availAbort 0 0 5 1001) s).chan 5).inHand.map ReadInHand.orphaned) = some true := by decide +kernel

/-- Every record of the table filled with a window of channel 6. -/
def fullWindows : State :=
  let table : Vector (Option Window) 48 := Vector.ofFn fun i : Fin 48 =>
    some ⟨6, 0, BitVec.ofNat 33 (1000 * i.val), BitVec.ofNat 33 (1000 * i.val + 1000), .scheduled⟩
  { base with windows := table }.mapChan 6 fun ch => { ch with state := .network, windows := List.finRange 48 }

theorem fullWindows_listed : fullWindows.windowsListed := by
  rw [windowsListed_iff]
  decide +kernel

/-- Section 7.7, event 1, and each refusal at the end of its range. -/
theorem witness_WindowAddListsTheWindow :
    let run (f : WindowAddFields) (s : State) := lastResponse (taken (.windowAdd 0 0 f) s)
    let f := windowFields
    let s := substituted
    s.windowsListed ∧ fullWindows.windowsListed ∧
    [run { f with window := 48 } s, run { f with channel := 32 } s, run { f with feed := 4 } s, run { f with start := 2 ^ 33 } s,
      run { f with stop := 2 ^ 33 } s, run { f with stop := 58000000 } s, run { f with start := 0, stop := 2 ^ 32 } s, run f fullWindows,
      run { f with window := 12 } s, run { f with channel := 7 } s, run { f with start := 62999999, stop := 63500000 } s, run f s] =
      [[7, 1, 0, 0], [7, 1, 0, 0], [7, 1, 0, 0], [7, 1, 0, 0], [7, 1, 0, 0], [7, 1, 0, 0], [7, 1, 0, 0], [7, 4, 0, 0], [7, 2, 1, 0],
        [7, 2, 2, 0], [7, 2, 3, 0], [7, 0, 0, 0]] ∧
    ((taken (.windowAdd 0 0 f) s).chan 4).windows = [11, 12, 13] ∧
    ((taken (.windowAdd 0 0 { f with start := 63000000, stop := 64000000 }) s).chan 4).windows = [12, 11, 13] ∧
    ((taken (.windowAdd 0 0 { f with start := 64500000, stop := 64500001 }) s).chan 4).windows = [12, 13, 11] :=
  ⟨substituted_listed, fullWindows_listed, by decide +kernel⟩

theorem witness_WindowDropRemovesTheWindow :
    let run (w : Nat) := taken (.windowDrop 0 0 w) substituted
    [lastResponse (run 48), lastResponse (run 47), lastResponse (run 13), lastResponse (run 12)] =
      [[8, 1, 0, 0], [8, 2, 1, 0], [8, 0, 0, 0], [8, 0, 0, 0]] ∧ substituted.window 47 = none ∧
    substituted.window 13 = some (window 64000000 64500000 .scheduled) ∧ substituted.window 12 = some (window 60000000 63000000 .active) ∧
    ((run 13).chan 4).state = .subst ∧ ((run 13).chan 4).windows = [12] ∧ ((run 12).chan 4).state = .returnWait ∧
    ((run 12).chan 4).window = none := by decide +kernel

/-- A context in the queue, by its id and level, for group 0. -/
def waiting (alert level : Nat) : AlertContext := ⟨alert, level, .line, 1, 0, none, .queued, none, none⟩

/-- A level-2 alert 10 on channel 4 is ACTIVE since house time 1,000, for 30 s, with this queue behind it. -/
def alerting (queue : List AlertContext) (mode : QueueMode) (s : State) : State := { s with
  alerts := { AlertControl.reset with
    current := some ⟨10, 2, .line, 1, 0, some 810000000, .active, some 16, some 1000⟩
    queue := queue
    recent := [9, 10]
    groups := AlertControl.reset.groups.set 0 48
    mode := mode } }

/-- Queue levels 2, 1, 1, 2 (section 9.2's drop), and four contexts of level 3. -/
def mixedQueue : List AlertContext := [waiting 11 2, waiting 12 1, waiting 13 1, waiting 14 2]
def highQueue : List AlertContext := [waiting 11 3, waiting 12 3, waiting 13 3, waiting 14 3]

theorem witness_AlertSendQueuesOrRefuses :
    let f : AlertSendFields := ⟨4412, 2, 1, 1, 30⟩
    let run (f : AlertSendFields) (q : List AlertContext) := taken (.alertSend 0 0 f) (alerting q .mayEmpty base)
    [run { f with feed := 2 } [], run { f with groupMask := 0 } [], run { f with alert := 10 } [], run { f with alert := 11 } mixedQueue,
      run { f with alert := 9 } [], run f [waiting 11 1, waiting 12 1, waiting 13 1], run f highQueue, run f mixedQueue].map lastResponse =
      [[10, 1, 0, 0], [10, 1, 0, 0], [10, 2, 1, 0], [10, 2, 1, 0], [10, 2, 1, 0], [10, 0, 2, 0], [10, 4, 0, 0], [10, 0, 2, 0]] ∧
    mixedQueue.length = 4 ∧ mixedQueue = [waiting 11 2, waiting 12 1] ++ waiting 13 1 :: [waiting 14 2] ∧
    (∀ x ∈ [waiting 11 2, waiting 12 1], 1 ≤ x.level) ∧ (∀ x ∈ [waiting 14 2], 1 < x.level) ∧ (∀ x ∈ highQueue, 2 ≤ x.level) ∧
    (run f mixedQueue).alerts.queue.map AlertContext.alert = [11, 12, 14, 4412] ∧ (run f mixedQueue).log.sequence = 1 ∧
    (run f []).alerts.queue = [⟨4412, 2, .host, 1, 1, some 810000000, .queued, none, none⟩] ∧
    (run f []).alerts.recent = [9, 10, 4412] := by decide +kernel

theorem unites_of_all {a : AlertControl} {groupMask : BitVec 8} {set : ChannelMask}
    (h : ∀ c : Fin 32, set.getLsbD c = true ↔ (List.finRange 8).any (fun g => groupMask.getLsbD g && a.groups[g].getLsbD c) = true) :
    a.unites groupMask set := fun c => (h c).trans (by simp)

/-- An activation with no alert before it (section 9.7, event 1, on the same channels). -/
theorem witness_AlertSendTakesItsChannels :
    let s := { alertState with alerts := { alertState.alerts with recent := [1, 2] } }
    let t := taken (.alertSend 0 0 ⟨4411, 0, 1, 0, 9000⟩) s
    s.alerts.unites (BitVec.ofNat 8 1) 52 ∧
    s.alerts.current = none ∧ s.alerts.queue = [] ∧ 4411 ∉ s.alerts.recent ∧
    (s.chan 9).state = .off ∧ (s.chan 2).state = .insert ∧ (s.chan 2).avail ≠ none ∧ (s.feed 4).latest = some (88000, 2000000) ∧
    ((base.feed 4).latest = none) ∧ lastResponse t = [10, 0, 1, 0] ∧
    t.alerts.current = some ⟨4411, 1, .host, 1, 0, some 194400000000, .active, some 52, some 100000000000⟩ ∧
    (t.chan 2).state = .alert ∧ (t.chan 2).avail = none ∧ t.window 12 = some (window 90000000 140000000 .suspended) :=
  ⟨unites_of_all (by decide +kernel), by decide +kernel⟩

/-- Channel 4 in ALERT with its suspended window 12, channel 5 in ALERT without one. -/
def inAlert : State :=
  ((substituted.mapChan 4 fun ch => { ch with state := .alert, source := .feed 4 none, netPts := some 62468465, outPts := some 62474471 }).mapChan
    5 fun ch => { ch with state := .alert, source := .feed 4 none }).setWindow 12 (some (window 60000000 63000000 .suspended))

theorem inAlert_listed : inAlert.windowsListed := by
  rw [windowsListed_iff]
  decide +kernel

/-- Channel 2 plays an avail, 4 in ALERT has a suspended window, 5 in ALERT has none, 6 shows a window, 7 is in NETWORK and 8 in
RETURN_WAIT; every other is OFF. -/
def mixed : State :=
  let s := inAlert.mapChan 2 fun ch => { ch with
    state := .insert
    source := .clip 9 50
    avail := some ⟨3001, 0, 50000000, none, false, [9], 0⟩
    outPts := some 51300000
    inHand := some ⟨50, plain 300, 7, false⟩ }
  let s := s.mapChan 6 fun ch => { ch with state := .subst, source := .feed 2 (some 5), window := some 20, windows := [20] }
  let s := s.mapChan 7 fun ch => { ch with state := .network, source := .network, outPts := some 30030000 }
  let s := s.mapChan 8 fun ch => { ch with state := .returnWait, source := .none, nullCount := 9 }
  let s := (s.setWindow 20 (some ⟨6, 2, 1, 100, .active⟩)).mapClip 9 fun _ => { ready 200 0 with plays := 1 }
  { s with house := 5000 }

theorem mixed_listed : mixed.windowsListed := by
  rw [windowsListed_iff]
  decide +kernel

/-- The alert 10 of this level and state on channels 4 and 5 is current, with this queue; group 0 holds channels 2, 4, 6, 7, 8 and 9. -/
def current (state : AlertState) (level : Nat) (queue : List AlertContext) (mode : QueueMode) : State := { mixed with
  alerts := { AlertControl.reset with
    current := some ⟨10, level, .line, 1, 0, some 810000000, state, some 48, some 1000⟩
    queue := queue
    recent := [9, 10]
    groups := AlertControl.reset.groups.set 0 980
    mode := mode } }

/-- Supersession of a HELD context and of an ACTIVE one on a lower level, to another feed: 5 leaves ALERT, 4 changes feed, and the others of
the set are taken, but for 9, which is OFF. -/
theorem witness_AlertSendTakesItsChannels_supersedes :
    let t (state : AlertState) (level : Nat) := taken (.alertSend 0 0 ⟨4411, 3, 1, 1, 0⟩) (current state level [waiting 11 1] .holdLast)
    (current .held 3 [] .holdLast).windowsListed ∧ (current .held 3 [] .holdLast).alerts.unites (BitVec.ofNat 8 1) 980 ∧
    (current .active 2 [] .holdLast).alerts.current = some ⟨10, 2, .line, 1, 0, some 810000000, .active, some 48, some 1000⟩ ∧
    [4, 5, 2, 6, 7, 8, 9].map (fun c => ((t .active 2).chan c).state) = [.alert, .returnWait, .alert, .alert, .alert, .alert, .off] ∧
    ((t .active 2).chan 4).source = .feed 5 none ∧ (t .active 2).window 20 = some ⟨6, 2, 1, 100, .suspended⟩ ∧
    (t .active 2).window 12 = mixed.window 12 ∧ ((t .active 2).clip 9).plays = 0 ∧ (t .active 2).log.sequence = 4 ∧
    (t .active 2).alerts.queue.length = 1 ∧ ((t .held 3).alerts.current.map AlertContext.alert) = some 4411 :=
  ⟨mixed_listed, unites_of_all (by decide +kernel), by decide +kernel⟩

/-- No current context; the end of the alert with its queue flushed, and of a HELD one; and the handover to the head of the queue. The window
that resumes waits for its feed, or is placed on its latest entry. -/
theorem witness_AlertClearReleasesItsChannels :
    let run (flush : Nat) (s : State) := taken (.alertClear 0 0 flush) s
    let flushed := run 1 ((current .active 2 mixedQueue .mayEmpty).mapFeed 1 fun t => { t with latest := some (88000, 2000000) })
    let ended := run 0 (current .held 2 [] .mayEmpty)
    let handed := run 0 (current .active 2 mixedQueue .mayEmpty)
    (current .active 2 mixedQueue .mayEmpty).windowsListed ∧ (current .active 2 mixedQueue .mayEmpty).alerts.unites (waiting 11 2).groupMask 980 ∧
    lastResponse (run 0 base) = [11, 2, 1, 0] ∧
    ((current .held 2 [] .mayEmpty).alerts.current.map AlertContext.target) = some (some 48) ∧ (mixed.chan 4).window = some 12 ∧
    (mixed.chan 5).window = none ∧
    [4, 5, 6, 9].map (fun c => (flushed.chan c).state) = [.subst, .returnWait, .subst, .off] ∧ flushed.alerts.queue = [] ∧
    flushed.alerts.current = none ∧ (flushed.chan 4).source = .feed 1 (some 88000) ∧ flushed.window 12 = some (window 60000000 63000000 .active) ∧
    flushed.log.sequence = 6 ∧ (ended.chan 4).source = .feed 1 none ∧ ended.log.sequence = 2 ∧
    (handed.alerts.current.map fun x => (x.alert, x.target, x.activated)) = some (11, some 980, some 5000) ∧
    [4, 5, 2, 9].map (fun c => (handed.chan c).state) = [.alert, .returnWait, .alert, .off] ∧ handed.chan 4 = mixed.chan 4 :=
  ⟨mixed_listed, unites_of_all (by decide +kernel), by decide +kernel⟩

/-- No context, and one HELD; the ACTIVE context's end under MAY_EMPTY, its hold under HOLD_LAST, and the handover to the queue's head; the house
counter before the expiry time and behind it. -/
theorem witness_AlertsExpire :
    let e := after .alertExpiry (current .active 2 [] .mayEmpty)
    let h := after .alertExpiry (current .active 2 [] .holdLast)
    let q := after .alertExpiry (current .active 2 mixedQueue .holdLast)
    let late := after .alertExpiry { current .active 2 mixedQueue .holdLast with house := 900000000 }
    (current .active 2 [] .mayEmpty).windowsListed ∧ (current .active 2 mixedQueue .holdLast).alerts.unites (waiting 11 2).groupMask 980 ∧
    base.alerts.current = none ∧ ((current .held 2 [] .holdLast).alerts.current.map AlertContext.state) = some .held ∧
    (current .active 2 [] .mayEmpty).alerts.current = some ⟨10, 2, .line, 1, 0, some 810000000, .active, some 48, some 1000⟩ ∧
    e.alerts.current = none ∧ e.house = 810001000 ∧ (e.chan 4).state = .subst ∧ (e.chan 5).state = .returnWait ∧
    (h.alerts.current.map AlertContext.state) = some .held ∧ h.channels = mixed.channels ∧
    (q.alerts.current.map fun x => (x.alert, x.activated, x.target)) = some (11, some 810001000, some 980) ∧ q.alerts.queue.length = 3 ∧
    (q.chan 2).state = .alert ∧ (late.alerts.current.map AlertContext.activated) = some (some 900000000) :=
  ⟨mixed_listed, unites_of_all (by decide +kernel), by decide +kernel⟩

theorem witness_ModeAndGroupsAreEdited :
    let mode (m : Nat) (s : State) := taken (.alertMode 0 0 m) s
    let edit (g m k : Nat) := taken (.groupEdit 0 0 g m k) (alerting [] .mayEmpty base)
    [lastResponse (mode 2 base), lastResponse (mode 1 (alerting [] .mayEmpty base)), lastResponse (mode 1 base), lastResponse (edit 8 0 1),
      lastResponse (edit 0 3 1), lastResponse (edit 7 2 1)] =
      [[12, 1, 0, 0], [12, 2, 1, 0], [12, 0, 0, 0], [9, 1, 0, 0], [9, 1, 0, 0], [9, 0, 0, 0]] ∧
    (mode 1 base).alerts.mode = .holdLast ∧ (mode 0 base).alerts.mode = .mayEmpty ∧ (edit 0 0 512).alerts.groups[0] = 512 ∧
    (edit 0 1 512).alerts.groups[0] = 560 ∧ (edit 0 2 16).alerts.groups[0] = 32 := by decide +kernel

/-- The log at these offsets, with its open batch of `count` records. -/
def logged (fo floor count inFlight : Nat) : State := { base with
  log := { base.log with
    fo := fo
    floor := floor
    batch := if count = 0 then none else some ⟨(fo / 32) - count, 3, 65537, 1000, count, 0x0A0B0C0D, inFlight⟩ } }

/-- A transparent part; a FULL log; a record one byte too long for the room, with and without a batch; one that just fits; the
fifteenth and the sixteenth of a batch. -/
theorem witness_RecordsAreWrittenOrWithheld :
    let r : Record := ⟨.clipStart, 3, 0, 7, 1, 2⟩
    State.reset.boot ≠ .running ∧ base.boot = .running ∧ base.log.state = .open ∧ base.log.batch = none ∧
    (({ base with log := { base.log with state := .full } } : State).record r).log.withheld = 1 ∧
    (logged 32 79 0 0).log.floor < (logged 32 79 0 0).log.fo + 48 ∧ ((logged 32 79 0 0).record r).log.state = .full ∧
    ((logged 64 111 2 1).record r).log.closing.map ClosedBatch.mark = [95] ∧ ((logged 32 80 0 0).record r).log.state = .open ∧
    ((logged 32 80 0 0).record r).log.fo = 64 ∧ (((logged 448 65536 14 14).record r).log.batch.map OpenBatch.count) = some 15 ∧
    ((logged 480 65536 15 15).record r).log.batch = none ∧
    ((logged 480 65536 15 15).record r).log.closing.map (fun b => (b.count, b.mark, b.inFlight)) = [(16, 65520, 16)] := by decide +kernel

/-- The 32 bytes of an ALERT_START (R160's example), written out from section 10.2, in a log whose counter reads 0102030405060708h. -/
theorem witness_RecordsAreWrittenOrWithheld_bytes :
    (({ logged 480 65536 15 15 with house := 0x0102030405060708 } : State).record
      ⟨.alertStart, 255, 2, 7002, 1073741827, 458872⟩).bus.txns.map Txn.data =
      [[10, 255, 2, 0, 8, 7, 6, 5, 4, 3, 2, 1, 0x5A, 0x1B, 0, 0, 3, 0, 0, 0x40, 0x78, 0, 7, 0, 0, 0, 0, 0, 3, 0, 15, 0]] := by
  decide +kernel

theorem witness_BatchTimerClosesTheBatch :
    base.log.batch = none ∧ ((logged 64 65536 2 0).log.batch.map OpenBatch.inFlight) = some 0 ∧
    ((logged 64 65536 2 1).log.batch.map OpenBatch.inFlight) = some 1 ∧
    (after .batchTimerExpiry (logged 64 65536 2 0)).bus.txns.map (fun x => (x.addr, x.len)) = [(0x20000FFF0, 16)] ∧
    (after .batchTimerExpiry (logged 64 65536 2 1)).bus.txns = [] ∧ (after .batchTimerExpiry (logged 64 65536 2 0)).house = 27001000 := by
  decide +kernel

/-- The mark of a batch whose record writes have all completed, asked for as a record does not fit and as a LOG_CLOSE is taken. -/
theorem witness_marks_asked_for_at_once :
    let mark := (⟨0, 3, 65537, 2, 0x0A0B0C0D, 0, 0, true⟩ : ClosedBatch).markBytes
    let asked (s : State) := s.bus.txns.filterMap fun x => if x.owner = .logMark 1 0 then some (x.addr, x.data) else none
    isMark mark 0 3 65537 2 0x0A0B0C0D ∧
    asked ((logged 64 111 2 0).record ⟨.clipStart, 3, 0, 7, 1, 2⟩) = [(0x20000005F, mark)] ∧
    asked ((logged 64 111 2 1).record ⟨.clipStart, 3, 0, 7, 1, 2⟩) = [] ∧
    asked (taken (.logClose 4 5) (logged 64 65536 2 0)) = [(0x20000FFF0, mark)] ∧
    (taken (.logClose 4 5) (logged 64 65536 2 0)).log.waits = [⟨⟨4, 5⟩, [0], false⟩] := by
  unfold isMark
  decide +kernel

/-- The write 7 of this owner is under way, two batches are closed, and these LOG_CLOSE directives wait. -/
def logWrite (owner : Owner) (requested : Bool) (waits : List CloseWait) : State :=
  let s := { logged 128 65504 1 1 with
    bus := { base.bus with txns := [issued 7 owner true 0x200000000 32 [] []], next := 8 } }
  { s with log := { s.log with
      closing := [⟨0, 1, 0, 2, 5, 65520, 0, true⟩, ⟨2, 2, 2, 1, 6, 65504, if requested then 0 else 1, requested⟩]
      waits := waits } }

/-- A record write of an earlier run; the last of a closed batch; one of the open batch; ERROR in OPEN and in STOPPED; a mark of a
batch no longer closed; a mark answered OK without and with the LOG_CLOSE that waits for it; ERROR on a mark in OPEN and in STOPPED, whose
batch is struck from the LOG_CLOSE that waits. -/
theorem witness_LogWritesAreAnswered :
    let r (run first : Nat) := logWrite (.logRecord run first) false []
    let m (first : Nat) (w : List CloseWait) := logWrite (.logMark 1 first) true w
    let rec_ (s : State) (a : Answer) := after (.logRecordWriteComplete 7 a) s
    let mark (s : State) (a : Answer) := after (.markWriteComplete 7 a) s
    let stopped (s : State) : State := { s with log := { s.log with state := .stopped } }
    (r 1 2).bus.issuedTxn 7 = some (issued 7 (.logRecord 1 2) true 0x200000000 32 [] []) ∧
    (m 2 []).bus.issuedTxn 7 = some (issued 7 (.logMark 1 2) true 0x200000000 32 [] []) ∧ (r 0 2).log.run = 1 ∧
    ((r 1 2).log.batch.map OpenBatch.first) = some 3 ∧
    (rec_ (r 1 2) (.ok [])).log.closing.map (fun b => (b.first, b.inFlight, b.requested)) = [(0, 0, true), (2, 0, true)] ∧
    ((rec_ (r 1 2) (.ok [])).bus.txns.map fun x => x.addr) = [0x20000FFE0] ∧
    ((rec_ (r 1 3) (.ok [])).log.batch.map OpenBatch.inFlight) = some 0 ∧
    (rec_ (r 1 3) .error).log.state = .stopped ∧ (rec_ (r 1 3) .error).log.closing.map ClosedBatch.first = [0] ∧
    (rec_ (r 1 3) .error).log.withheld = 1 ∧ (rec_ (r 0 3) .error).log = (r 0 3).log ∧ (mark (m 9 []) .error).log = (m 9 []).log ∧
    (rec_ (stopped (r 1 3)) .error).log = (stopped (r 1 3)).log ∧
    (mark (m 2 []) (.ok [])).log.closing.map ClosedBatch.first = [0] ∧
    lastResponse (mark (m 2 [⟨⟨1, 2⟩, [2], false⟩]) (.ok [])) = [13, 0, 0, 2] ∧
    lastResponse (mark (m 2 [⟨⟨1, 2⟩, [2], true⟩]) (.ok [])) = [13, 6, 1, 2] ∧
    (mark (m 2 [⟨⟨1, 2⟩, [0, 2], false⟩]) (.ok [])).log.waits = [⟨⟨1, 2⟩, [0], false⟩] ∧
    (mark (m 2 []) .error).log.state = .stopped ∧ (mark (m 2 []) .error).log.withheld = 0 ∧
    lastResponse (rec_ (logWrite (.logRecord 1 3) false [⟨⟨1, 2⟩, [2], false⟩]) .error) = [13, 6, 1, 2] ∧
    lastResponse (mark (m 2 [⟨⟨1, 2⟩, [2], false⟩]) .error) = [13, 6, 1, 2] ∧
    (mark (stopped (m 2 [⟨⟨1, 2⟩, [0, 2], false⟩])) .error).log.waits = [⟨⟨1, 2⟩, [0], true⟩] ∧
    (mark (stopped (m 2 [])) .error).log.closing.map ClosedBatch.first = [0] := by decide +kernel

/-- A record write of a closed batch with another under way, and one of a batch abandoned before; and the two LOG_CLOSE directives that one
mark frees. -/
theorem witness_LogWritesAreAnswered_more :
    let s (first : Nat) := logWrite (.logRecord 1 first) false []
    let two : State := { s 2 with
      log := { (s 2).log with closing := [⟨0, 1, 0, 2, 5, 65520, 0, true⟩, ⟨2, 2, 2, 1, 6, 65504, 2, false⟩] } }
    let t := after (.logRecordWriteComplete 7 (.ok [])) two
    let freed := after (.markWriteComplete 7 (.ok [])) (logWrite (.logMark 1 2) true [⟨⟨1, 2⟩, [2], false⟩, ⟨⟨3, 4⟩, [2], true⟩])
    t.log.closing.map (fun b => (b.inFlight, b.requested)) = [(0, true), (1, false)] ∧ t.bus.txns = [] ∧
    (after (.logRecordWriteComplete 7 (.ok [])) (s 9)).log = (s 9).log ∧
    freed.bus.txns.map (fun x => (slice x.data 2 4).map BitVec.toNat) = [[13, 0, 0, 2], [13, 6, 1, 4]] := by decide +kernel

theorem witness_LogCloseWaitsForItsMarks :
    let close (s : State) := taken (.logClose 4 5) s
    let none_ := { logWrite .stale true [] with log := { (logWrite .stale true []).log with batch := none } }
    base.log.batch = none ∧ base.log.closing = [] ∧ none_.log.batch = none ∧ none_.log.closing ≠ [] ∧
    ((logged 64 65536 2 1).log.batch.map OpenBatch.inFlight) = some 1 ∧ lastResponse (close base) = [13, 0, 0, 5] ∧
    (close none_).log.waits = [⟨⟨4, 5⟩, [0, 2], false⟩] ∧ (close (logged 64 65536 2 1)).log.waits = [⟨⟨4, 5⟩, [0], false⟩] ∧
    (close (logged 64 65536 2 1)).log.floor = 65520 := by decide +kernel

theorem witness_LogRestartBeginsANewRun :
    let s := { logWrite .stale true [⟨⟨1, 2⟩, [2], false⟩] with log := { (logWrite .stale true [⟨⟨1, 2⟩, [2], false⟩]).log with size := 4096, state := .full } }
    let t := taken (.logRestart 4 5) s
    s.boot = .running ∧ 4096 ≤ s.log.size ∧ t.log.fo = 32 ∧ t.log.floor = 4096 ∧ t.log.sequence = 1 ∧ t.log.waits = [] ∧
    (t.bus.txns.drop 1).map (fun x => (x.owner, x.data[2]?)) =
      [(.responseEntry, some 13), (.logRecord 2 0, some 2), (.responseEntry, some 14)] := by decide +kernel

/-- A scope above 2, a channel of 32, a clip of 64; a snapshot unaligned, below and past the area; and one that just fits. -/
theorem witness_StatusWritesASnapshot :
    let run (scope number dest : Nat) := taken (.status 6 7 scope number dest) base
    [run 3 0 0x320000000, run 1 32 0x320000000, run 2 64 0x320000000, run 0 0 0x320000020, run 1 5 0x31FFFFFC0, run 2 63 0x32000FF40].map
      lastResponse = List.replicate 6 [15, 1, 0, 7] ∧ base.map = some map ∧
    (run 2 63 0x32000FF00).bus.txns.map (fun x => (x.addr, x.len)) = [(0x32000FF00, 128), (0x32000FF80, 128)] ∧
    (run 1 31 0x32000F400).bus.txns.length = 24 ∧ (run 0 0 0x32000FC00).dir.snapshots = [⟨0, ⟨6, 7⟩, 8, false⟩] := by decide +kernel

/-- The words of a channel's configuration, state and source, and of a clip that is FREE. -/
theorem witness_StatusWritesASnapshot_words :
    ((awaiting (.clip 9) false).snapshotWords (.channel 5)).take 18 =
      [300, 0xFFFFFFFF, 0xFFFFFFFF, 0xFFFFFFFF, 0xFFFFFFFF, 0xFFFFFFFF, 500, 0, 45000, 21600000, 4096, 270000, 2, 1, 9, 3, 1001, 0] ∧
    (base.snapshotWords (.clip 63)).take 7 = [0, 0, 0, 0, 0, 0, 0xFFFFFFFF] ∧
    (base.snapshotWords .device).length ≤ 256 ∧ ((taken (.status 6 7 2 63 0x32000FF00) base).bus.txns.map fun x => x.data.take 28) =
      [List.replicate 24 0 ++ List.replicate 4 0xFF#8, List.replicate 28 0] := by decide +kernel

theorem witness_StatusIsAnsweredAtItsLastWrite :
    let s (left : Nat) : State := { base with
      dir := { DirectiveUnit.reset with snapshots := [⟨3, ⟨1, 2⟩, 8, false⟩, ⟨4, ⟨6, 7⟩, left, false⟩] }
      bus := { base.bus with txns := [issued 7 (.snapshot 4) true 0x320000000 128 [] []], next := 8 } }
    (s 1).bus.issuedTxn 7 = some (issued 7 (.snapshot 4) true 0x320000000 128 [] []) ∧
    (s 1).dir.snapshots = [⟨3, ⟨1, 2⟩, 8, false⟩] ++ ⟨4, ⟨6, 7⟩, 1, false⟩ :: [] ∧
    (∀ k ∈ [(⟨3, ⟨1, 2⟩, 8, false⟩ : SnapshotJob)] ++ [], k.job ≠ 4 ∧ 0 < k.left) ∧
    (after (.statusWriteComplete 7 .error) (s 2)).dir.snapshots = [⟨3, ⟨1, 2⟩, 8, false⟩, ⟨4, ⟨6, 7⟩, 1, true⟩] ∧
    lastResponse (after (.statusWriteComplete 7 (.ok [])) (s 1)) = [15, 0, 0, 7] ∧
    lastResponse (after (.statusWriteComplete 7 .error) (s 1)) = [15, 6, 1, 7] := by decide +kernel

/-- The receiver of `base` in this state, reading since 900 and since 990,000 waiting for a start edge, its period measured as 2,812. -/
def receiving (st : ReceiverState) (buffer : List Byte) : State := { base with
  receiver := { Receiver.reset with
    state := st
    readingFrom := some 900
    idleFrom := some 990000
    nominal := 2812
    zones := [0x102, 0x203]
    period := if st = .body then some 2812 else none
    buffer := buffer } }

/-- A fall after the receiver began reading, and a line that was low before. -/
theorem witness_AttentionOpensAMessage :
    (receiving .standby []).boot = .running ∧ (receiving .standby []).receiver.state = .standby ∧ State.reset.boot ≠ .running ∧
    (receiving .standby []).receiver.readingFrom = some 900 ∧
    (after (.attention 1000) (receiving .standby [1])).receiver.state = .attention ∧
    (after (.attention 1000) (receiving .standby [1])).house = 45992 ∧ (after (.attention 500) (receiving .waitAttention [1])).house = 45892 ∧
    (after (.attention 1000) (receiving .body [1])) = receiving .body [1] ∧
    (after (.attention 1000) (after .idleLimitExpiry (receiving .body [1]))).receiver.state = .attention ∧
    (after (.attentionEnd 50000) (receiving .attention [])).receiver.idleFrom = some 50000 ∧
    (after (.attentionEnd 50000) (receiving .body [1])) = receiving .body [1] := by decide +kernel

/-- A false start; no fourth falling edge, and one too late; a span out of tolerance; an edge out of place; bit 8 low; the stop bit
low; an accepted mark, and the same with a pulse inside the start bit. The start edge comes at the last tick of the idle limit. -/
theorem witness_RateMarkIsMeasured :
    let s := receiving .rateMark []
    let run (l : List Nat) := (after (.rateMark ⟨1046240, l⟩) s).receiver
    let good := [1051864, 1054676, 1057488, 1060300, 1063112, 1065924]
    s.receiver.idleFrom = some 990000 ∧ 1046240 = 990000 + 20 * s.receiver.nominal ∧ (run [1046250]).state = .rateMark ∧
    (run [1051864, 1054676]).counts.rate = 1 ∧ (run [1051864, 1054676, 1057488, 1060300, 1063112, 1068737]).counts.rate = 1 ∧
    (run [1051864, 1054676, 1057488, 1060300, 1063112, 1068736]).counts.rate = 1 ∧
    (run [1049864, 1054676, 1057488, 1060300, 1063112, 1065924]).counts.rate = 1 ∧ (run good).counts.rate = 1 ∧
    (run (good ++ [1068736, 1071548])).counts.framing = 1 ∧ (run (good ++ [1068736])).state = .body ∧ (run (good ++ [1068736])).period = some 2812 ∧
    (run (good ++ [1068736])).counts.noise = 0 ∧ (run ([1047640, 1047650] ++ good ++ [1068736])).period = some 2812 ∧
    (run ([1047640, 1047650] ++ good ++ [1068736])).counts.noise = 1 ∧
    (after (.rateTimeout ⟨1046240, [1051864]⟩) s).receiver.counts.rate = 1 ∧ after (.rateTimeout ⟨1046240, good⟩) s = s := by
  decide +kernel

theorem witness_IdleLimitTruncates :
    let s := receiving .rateMark []
    let b := receiving .body [0xAA]
    s.boot = .running ∧ s.receiver.idleFrom = some 990000 ∧ b.receiver.period = some 2812 ∧ 990000 + 20 * 2812 < 1046241 ∧
    (after .idleLimitExpiry s).receiver.counts.truncated = 1 ∧ (after .idleLimitExpiry b).house = 1046241 ∧
    (after (.bodyByte ⟨1046241, []⟩) b).receiver.counts.truncated = 1 ∧ (after (.rateMark ⟨1046241, []⟩) s).receiver.state = .standby ∧
    State.reset.boot ≠ .running ∧ base.receiver.idleFrom = none ∧ after .idleLimitExpiry base = base ∧
    after .idleLimitExpiry (receiving .standby []) = receiving .standby [] := by decide +kernel

/-- The wave of a byte at period 2,812 from 1,000,000: its start bit, its data bits, and its stop bit. -/
def wave (b : Byte) (stop : Bool) : Wave :=
  let levels := [false] ++ (List.range 8).map (fun k => b.getLsbD k) ++ [stop]
  ⟨1000000, (List.range 9).filterMap fun k =>
    if levels.getD k false = levels.getD (k + 1) false then none else some (1000000 + (k + 1) * 2812)⟩

/-- Bytes 0 to 9 of a message: id 4,411, feed 0 and duration 300, with this zone, level and mask. -/
def message (zone : Byte) (mask : Byte) : List Byte := [0xAA, zone, 3, 2, 0x11, 0x3B, mask, 0, 1, 0x2C]

/-- The message with its byte 10, waiting for byte 11. -/
def lastByte (m : List Byte) : State := receiving .body (m ++ [BitVec.ofNat 8 ((crc16 ((m.drop 1).take 9)).toNat / 256)])

/-- Byte 11 of the message. -/
def checkByte (m : List Byte) : Byte := BitVec.ofNat 8 (crc16 ((m.drop 1).take 9)).toNat

/-- A false start; a byte in the middle, its stop bit high and low; byte 2 for a zone of ours and of another; and byte 11 with a wrong
check, with a mask of 0, and of a valid message. -/
theorem witness_BodyBytesMakeAMessage :
    let run (x : Byte) (b : List Byte) := after (.bodyByte (wave x true)) (receiving .body b)
    let m := message 2 5
    let v := after (.bodyByte (wave (checkByte m) true)) (lastByte m)
    let f := after (.bodyByte (wave (checkByte (message 2 0)) true)) (lastByte (message 2 0))
    (receiving .body []).receiver.period = some 2812 ∧ 990000 < (wave 0 true).fall ∧ (wave 0 true).fall ≤ 990000 + 20 * 2812 ∧
    (sampleBit ⟨1000000, [1000010]⟩ 2812 0).value = true ∧
    (after (.bodyByte ⟨1000000, [1000010]⟩) (receiving .body [0xAA])).receiver = (receiving .body [0xAA]).receiver ∧
    (sampleBit (wave 0xA5 true) 2812 0).value = false ∧ (sampleBit (wave 0xA5 true) 2812 9).value = true ∧
    (sampleBit (wave 0xA5 false) 2812 9).value = false ∧
    (after (.bodyByte (wave 0xA5 false)) (receiving .body [0xAA])).receiver.counts.framing = 1 ∧
    (run 0xA5 [0xAA]).receiver.buffer = [0xAA, 0xA5] ∧ (run 3 [0xAA, 2]).receiver.state = .body ∧
    (run 3 [0xAA, 1]).receiver.counts.notOurs = 1 ∧ (run 0xFF [0xAA, 0xFF]).receiver.counts.notOurs = 0 ∧
    (after (.bodyByte (wave (checkByte m + 1) true)) (lastByte m)).receiver.counts.check = 1 ∧
    f.receiver.counts.field = 1 ∧ f.log.sequence = 1 ∧ v.receiver.state = .waitAttention ∧ v.receiver.counts.delivered = 1 ∧
    (v.alerts.current.map fun x => (x.alert, x.level, x.groupMask, x.duration)) = some (4411, 2, 5, some 8100000000) := by
  decide +kernel

theorem witness_EveryStepKeepsTagsApart : (oneWrite 0x20000FFFF).tagsApart ∧ ∃ t, step (oneWrite 0x20000FFFF) = .next t :=
  ⟨oneWrite_tagsApart _, _, rfl⟩

theorem witness_EveryStepKeepsTheLogInPlace :
    (logWrite .stale true []).log.inPlace ∧ ∃ t, step { logWrite .stale true [] with pending := [.batchTimerExpiry] } = .next t := by
  refine ⟨⟨rfl, by decide, by decide, ?_, by decide⟩, _, rfl⟩
  intro b hb
  cases hb
  decide

theorem witness_EveryStepKeepsEventsApart :
    (∀ c, ((cued [1, 2, 3, 4] .keep twoBindings).chan c).eventsApart) ∧ ∃ t, step (cued [1, 2, 3, 4] .keep twoBindings) = .next t := by
  refine ⟨?_, _, rfl⟩
  unfold Channel.eventsApart
  decide +kernel

theorem witness_EveryStepKeepsAlertsInOrder :
    (alerting mixedQueue .mayEmpty base).alerts.inOrder ∧
    ∃ t, step { alerting mixedQueue .mayEmpty base with pending := [.alertExpiry] } = .next t := by
  refine ⟨⟨by decide, by decide, by decide, by decide, by decide, by decide, ?_⟩, _, rfl⟩
  intro x hx
  cases hx
  decide

theorem witness_EveryStepKeepsTheClipStoreInOrder :
    (verifying 1 0).tagsApart ∧ (verifying 1 0).oneVerifies ∧ (verifying 1 0).clipsApart ∧
    ∃ t, step { verifying 1 0 with pending := [.verifyReadComplete 7 .error] } = .next t := by
  refine ⟨?_, verifying_one 1 0, ?_, _, rfl⟩
  · simp [State.tagsApart, verifying, State.mapClip, under, issued, base, State.reset]
  · intro n k hnk hn hk
    have h : ∀ n : Fin 64, ((verifying 1 0).clip n).state ≠ .free → n = 7 := by decide +kernel
    exact absurd ((h n hn).trans (h k hk).symm) hnk

theorem keysApart_iff (s : State) : s.keysApart ↔ ∀ (c : Fin 32) (i j : Fin 8), ∀ a ∈ (s.bindingTable c)[i],
    ∀ b ∈ (s.bindingTable c)[j], a.key = b.key → i = j := by
  simp only [State.keysApart, Option.mem_def]
  exact ⟨fun h c i j a ha b hb => h c i j a b ha hb, fun h c i j a b ha hb => h c i j a ha b hb⟩

theorem witness_EveryStepKeepsTheTablesInOrder :
    (substituted.setBindings 3 fullTable).windowsListed ∧ (substituted.setBindings 3 fullTable).keysApart ∧
    (substituted.setBindings 3 fullTable).dir.inRings ∧
    ∃ t, step { substituted.setBindings 3 fullTable with pending := [.directiveFetch] } = .next t := by
  refine ⟨by rw [windowsListed_iff]; decide +kernel, by rw [keysApart_iff]; decide +kernel, ?_, _, rfl⟩
  unfold DirectiveUnit.inRings
  decide +kernel

/-- Distances 0, 1, 2^32 - 1, 2^32 and 2^32 + 1. -/
theorem witness_TimestampsCompareByForwardDistance : forward 5 5 = 0 ∧ forward 0 8589934591 = 1 ∧ forward 4294967295 0 = 2 ^ 32 - 1 ∧
    forward 4294967296 0 = 2 ^ 32 ∧ forward 4294967297 0 = 2 ^ 32 + 1 := by decide

end Sys2Proof.Tests
end

