-- ==== Sys2Proof/Proofs/Timestamps.lean ====
section
/-! The comparison of timestamps (R24): the forward distance as an integer, the distance the other way round, and the two relations
said by the distance. -/

namespace Sys2Proof.Machine

/-- R24's formula, with the integer remainder, as `a` may be the smaller number. -/
theorem forward_eq_emod (a b : Pts) : (forward a b : Int) = ((a.toNat : Int) - b.toNat) % 2 ^ 33 := by
  have ha : a.toNat < 2 ^ 33 := a.isLt
  have hb : b.toNat < 2 ^ 33 := b.isLt
  have hsub : forward a b = (2 ^ 33 - b.toNat + a.toNat) % 2 ^ 33 := BitVec.toNat_sub a b
  omega

/-- The distances of a pair in the two directions add up to nothing or to one whole turn. -/
theorem forward_comm (a b : Pts) : forward b a = (2 ^ 33 - forward a b) % 2 ^ 33 := by
  have hab := forward_eq_emod a b
  have hba := forward_eq_emod b a
  omega

theorem atOrAfter_iff (a b : Pts) : atOrAfter a b = true ↔ forward a b < 2 ^ 32 :=
  decide_eq_true_iff

theorem isAfter_iff (a b : Pts) : isAfter a b = true ↔ 0 < forward a b ∧ forward a b < 2 ^ 32 := by
  simp only [isAfter, Bool.and_eq_true, decide_eq_true_iff]

end Sys2Proof.Machine

namespace Sys2Proof.Certificates.Slice0

open Sys2Proof.Machine

/-- Settles O53: with both relations said by the distance from `b` to `a`, and the distance back from `forward_comm`, each row of
R24's table is a bound on one number. -/
theorem timestampsCompareByForwardDistance : Obligations.TimestampsCompareByForwardDistance := by
  intro a b
  have hback := forward_comm a b
  simp only [← Bool.not_eq_true, atOrAfter_iff, isAfter_iff]
  refine ⟨forward_eq_emod a b, fun same => ?_, fun pos half => ?_, fun opposite => ?_, fun beyond => ?_⟩
  · rw [same] at hback ⊢
    omega
  · have : forward b a = 2 ^ 33 - forward a b := by omega
    omega
  · rw [opposite] at hback ⊢
    omega
  · have : forward a b < 2 ^ 33 := (a - b).isLt
    have : forward b a = 2 ^ 33 - forward a b := by omega
    omega

end Sys2Proof.Certificates.Slice0
end

/-! The binding tables: which key fields are in range, which slot a key has, and each outcome of UNBIND (R79, R80). -/

namespace Sys2Proof.Machine

/-! ## Key fields and slots -/

theorem keyOf_eq_none_iff (n : Nat) : keyOf n = none ↔ 255 < n ∧ n ≠ 0xFFFF := by
  unfold keyOf
  split
  · simp [*]
  · split <;> simp <;> omega

theorem keyOf_eq_some_iff (n : Nat) (key : Option Nat) :
    keyOf n = some key ↔ key = none ∧ n = 0xFFFF ∨ key = some n ∧ n ≤ 255 := by
  unfold keyOf
  split
  next any => simp [any, eq_comm]
  next notAny =>
    split
    next small => simp [notAny, small, eq_comm]
    next large => simp [notAny, large]

theorem slotOfKey_eq_none_iff (t : Vector (Option Binding) 8) (key : Option Nat) :
    slotOfKey t key = none ↔ ∀ i : Fin 8, ∀ b, t[i] = some b → b.key ≠ key := by
  simp [slotOfKey, Option.any_eq_false]

/-- The slot found for a key holds a binding with that key. -/
theorem binding_of_slotOfKey {t : Vector (Option Binding) 8} {key : Option Nat} {i : Fin 8} (h : slotOfKey t key = some i) :
    ∃ b, t[i] = some b ∧ b.key = key := by
  simpa [Option.any_eq_true] using List.find?_some h

/-- A key bound in one slot only has that slot. -/
theorem slotOfKey_of_unique {t : Vector (Option Binding) 8} {key : Option Nat} {i : Fin 8} {b : Binding} (bound : t[i] = some b)
    (isKey : b.key = key) (unique : ∀ j : Fin 8, ∀ b', t[j] = some b' → b'.key = key → j = i) : slotOfKey t key = some i := by
  cases found : slotOfKey t key with
  | none => exact absurd isKey ((slotOfKey_eq_none_iff t key).1 found i b bound)
  | some j =>
    obtain ⟨b', boundJ, isKeyJ⟩ := binding_of_slotOfKey found
    rw [unique j b' boundJ isKeyJ]

/-! ## UNBIND (R80) -/

theorem State.unbind_channel_range (s : State) (t : Ticket) {channel : Nat} (key : Nat) (h : 31 < channel) :
    s.unbind t channel key = s.respond t.seq 5 .refusedRange 0 t.slot :=
  dif_neg (by omega)

theorem State.unbind_key_range (s : State) (t : Ticket) (channel : Nat) {key : Nat} (h : keyOf key = none) :
    s.unbind t channel key = s.respond t.seq 5 .refusedRange 0 t.slot := by
  simp [State.unbind, h]

theorem State.unbind_unbound (s : State) (t : Ticket) (c : Fin 32) {key : Nat} {k : Option Nat} (hk : keyOf key = some k)
    (h : slotOfKey (s.bindingTable c) k = none) : s.unbind t c key = s.respond t.seq 5 .refusedState 0 t.slot := by
  simp [State.unbind, hk, h]

theorem State.unbind_bound (s : State) (t : Ticket) (c : Fin 32) {key : Nat} {k : Option Nat} {i : Fin 8}
    (hk : keyOf key = some k) (h : slotOfKey (s.bindingTable c) k = some i) :
    s.unbind t c key = (s.setBindings c ((s.bindingTable c).set i none)).respond t.seq 5 .done 0 t.slot := by
  simp [State.unbind, hk, h]

theorem exec_unbind_inHand {s : State} {seq slot channel key : Nat} (h : s.inHand (.unbind seq slot channel key)) :
    exec (.unbind seq slot channel key) s = .next (s.taken.unbind ⟨seq, slot⟩ channel key) :=
  congrArg Host.Outcome.next (State.takeDirective_of _ h)

end Sys2Proof.Machine

namespace Sys2Proof.Certificates.Slice0

open Sys2Proof.Machine

/-- Settles O33: the tests of R80 in their order, each by its equation of `State.unbind` in the state with the directive taken, whose
binding tables are those of `s`. -/
theorem unbindEmptiesItsKeysSlot : Obligations.UnbindEmptiesItsKeysSlot := by
  intro s seq slot channel key inHand
  rw [exec_unbind_inHand inHand]
  refine ⟨fun range => ?_, fun c k isChannel isKey => ?_⟩
  · rcases range with channelRange | keyRange
    · rw [State.unbind_channel_range _ _ _ channelRange]
    · rw [State.unbind_key_range _ _ _ ((keyOf_eq_none_iff key).2 keyRange)]
  · subst isChannel
    have inRange : keyOf key = some k := (keyOf_eq_some_iff key k).2 isKey
    refine ⟨fun unbound => ?_, fun i b bound hasKey unique => ?_⟩
    · rw [State.unbind_unbound s.taken _ c inRange ((slotOfKey_eq_none_iff _ _).2 unbound)]
    · rw [State.unbind_bound s.taken _ c inRange (slotOfKey_of_unique bound hasKey unique)]
      rfl

end Sys2Proof.Certificates.Slice0

/-! The abandonment of an avail, step by step, and each outcome of AVAIL_ABORT (R115, R116). -/

namespace Sys2Proof.Machine

/-! ## Taking the directive in hand leaves the clips and the channels (R187) -/

@[simp] theorem State.clips_taken (s : State) : s.taken.clips = s.clips := rfl

@[simp] theorem State.channels_taken (s : State) : s.taken.channels = s.channels := rfl

@[simp] theorem State.clip_taken (s : State) (n : Fin 64) : s.taken.clip n = s.clip n := rfl

@[simp] theorem State.chan_taken (s : State) (c : Fin 32) : s.taken.chan c = s.chan c := rfl

/-! ## Abandonment (R115) -/

/-- Two changes of one channel are one. -/
theorem State.mapChan_mapChan (s : State) (c : Fin 32) (f g : Channel → Channel) :
    (s.mapChan c f).mapChan c g = s.mapChan c (g ∘ f) := by
  simp [State.mapChan]

/-- A clip's change and a channel's change, as the one update of the two tables. -/
theorem State.mapClip_mapChan (s : State) (n : Fin 64) (f : Clip → Clip) (c : Fin 32) (g : Channel → Channel) :
    (s.mapClip n f).mapChan c g =
      { s with clips := s.clips.set n (f (s.clip n)), channels := s.channels.set c (g (s.chan c)) } := rfl

/-- The log writer reads no clip, so a record may be handed over before or after a clip's change. -/
theorem State.record_mapClip (s : State) (n : Fin 64) (f : Clip → Clip) (r : Record) :
    (s.mapClip n f).record r = (s.record r).mapClip n f := rfl

theorem State.leaveClip_of_source {s : State} {c : Fin 32} {n : Fin 64} {i : Nat} (why : ClipEndReason)
    (h : (s.chan c).source = .clip n i) : s.leaveClip c why =
      (s.record ⟨.clipEnd, c, why.code, n, i, (s.clip n).cells⟩).mapClip n fun x => { x with plays := x.plays - 1 } := by
  simp only [State.leaveClip, h]

/-- What the end of an avail of this event id does to its channel (R114). -/
def Channel.forgetAvail (ch : Channel) (event : Nat) : Channel :=
  { ch with avail := none, clipAnchor := none, recent := joinRecent 4 ch.recent event }

theorem State.endAvail_of_avail {s : State} {c : Fin 32} {av : CurrentAvail} (why : AvailEndReason) (ended : Pts)
    (h : (s.chan c).avail = some av) : s.endAvail c why ended =
      (s.record ⟨.availEnd, c, why.code, av.event, ended.toNat,
        if ended = 0 then 0 else forward ended av.splice⟩).mapChan c fun ch => ch.forgetAvail av.event := by
  simp only [State.endAvail, h, Channel.forgetAvail]

/-- Steps 1 to 3 of R115 with the two records first: leaving the clip changes no channel, so the avail and the end point are those
from before. -/
theorem State.abandon_of_insert {s : State} {c : Fin 32} {av : CurrentAvail} {n : Fin 64} {i : Nat} (clipWhy : ClipEndReason)
    (why : AvailEndReason) (playing : (s.chan c).avail = some av) (onClip : (s.chan c).source = .clip n i) :
    s.abandon c clipWhy why =
      (((s.record ⟨.clipEnd, c, clipWhy.code, n, i, (s.clip n).cells⟩).record
        ⟨.availEnd, c, why.code, av.event, (s.chan c).endPoint.toNat,
          if (s.chan c).endPoint = 0 then 0 else forward (s.chan c).endPoint av.splice⟩).mapClip n
        fun x => { x with plays := x.plays - 1 }).mapChan c fun ch => ch.forgetAvail av.event := by
  have stillPlaying : ((s.leaveClip c clipWhy).chan c).avail = some av := by
    rw [State.leaveClip_of_source clipWhy onClip]
    exact playing
  rw [State.abandon, State.endAvail_of_avail _ _ stillPlaying, State.leaveClip_of_source clipWhy onClip, State.record_mapClip]

/-! ## AVAIL_ABORT (R116) -/

theorem Channel.playing_of_avail {ch : Channel} {av : CurrentAvail} (h : ch.avail = some av) (event : Nat) :
    ch.playing event = true ↔ av.event = event := by
  simp [Channel.playing, h]

theorem State.availAbort_channel_range (s : State) (t : Ticket) {channel : Nat} (event : Nat) (h : 31 < channel) :
    s.availAbort t channel event = s.respond t.seq 6 .refusedRange 0 t.slot :=
  dif_neg (by omega)

theorem State.availAbort_not_insert (s : State) (t : Ticket) (c : Fin 32) (event : Nat) (h : (s.chan c).state ≠ .insert) :
    s.availAbort t c event = s.respond t.seq 6 .refusedState 1 t.slot := by
  simp [State.availAbort, h]

theorem State.availAbort_not_playing (s : State) (t : Ticket) (c : Fin 32) (event : Nat) (insert : (s.chan c).state = .insert)
    (h : ¬ (s.chan c).playing event = true) : s.availAbort t c event = s.respond t.seq 6 .refusedState 2 t.slot := by
  simp [State.availAbort, insert, h]

theorem State.availAbort_playing (s : State) (t : Ticket) (c : Fin 32) (event : Nat) (insert : (s.chan c).state = .insert)
    (h : (s.chan c).playing event = true) : s.availAbort t c event =
      ((s.abandon c .cut .aborted).mapChan c Channel.toReturnWait).respond t.seq 6 .done 0 t.slot := by
  simp [State.availAbort, insert, h]

theorem exec_availAbort_inHand {s : State} {seq slot channel event : Nat} (h : s.inHand (.availAbort seq slot channel event)) :
    exec (.availAbort seq slot channel event) s = .next (s.taken.availAbort ⟨seq, slot⟩ channel event) :=
  congrArg Host.Outcome.next (State.takeDirective_of _ h)

end Sys2Proof.Machine

namespace Sys2Proof.Certificates.Slice0

open Sys2Proof.Machine

/-- Settles O34: the tests of R116 in their order, each by its equation of `State.availAbort` in the state with the directive taken;
the accepted one by `State.abandon_of_insert`, with the move to RETURN_WAIT joined to the channel's other changes,
and the tables read past the records and the directive taken. -/
theorem availAbortEndsTheAvail : Obligations.AvailAbortEndsTheAvail := by
  intro s seq slot channel event inHand
  rw [exec_availAbort_inHand inHand]
  refine ⟨fun range => ?_, fun c isChannel => ?_⟩
  · rw [State.availAbort_channel_range _ _ _ range]
  · subst isChannel
    refine ⟨fun notInsert => ?_, fun av n i insert playing onClip => ⟨fun other => ?_, fun same => ?_⟩⟩
    · rw [State.availAbort_not_insert s.taken _ c _ notInsert]
    · rw [State.availAbort_not_playing s.taken _ c _ insert (mt (Channel.playing_of_avail playing event).1 other)]
    · subst same
      rw [State.availAbort_playing s.taken _ c _ insert ((Channel.playing_of_avail playing _).2 rfl),
        State.abandon_of_insert (s := s.taken) .cut .aborted playing onClip, State.mapChan_mapChan]
      simp only [State.mapClip_mapChan, State.record_clips, State.record_channels, State.clip_record, State.chan_record,
        State.clips_taken, State.channels_taken, State.clip_taken, State.chan_taken]
      rfl

end Sys2Proof.Certificates.Slice0

/-! The window table: the removal of a window, the place of a window in its channel's list, and each outcome of WINDOW_ADD and of
WINDOW_DROP (R120 to R123, R132, R134). -/

namespace Sys2Proof.Machine

/-! ## The removal of a window (R120, R134) -/

/-- What the removal of a window does to its channel (R120). -/
def Channel.forgetWindow (ch : Channel) (id : Fin 48) : Channel :=
  { ch with
    windows := ch.windows.filter fun k => k ≠ id
    window := if ch.window = some id then none else ch.window }

theorem State.removeWindow_eq (s : State) (id : Fin 48) (w : Window) (why : WindowEndReason) :
    s.removeWindow id w why =
      ((s.record ⟨.windowEnd, w.channel, why.code, id, ((s.chan w.channel).netPts.getD 0).toNat, w.stop.toNat⟩).setWindow id
        none).mapChan w.channel fun ch => ch.forgetWindow id := by
  have unequal : (· != id) = fun k : Fin 48 => decide (k ≠ id) := funext fun k => by simp [bne, beq_eq_decide]
  simp only [State.removeWindow, Channel.forgetWindow, unequal]

/-- A window record's change and a channel's change, as the one update of the two tables. -/
theorem State.setWindow_mapChan (s : State) (id : Fin 48) (x : Option Window) (c : Fin 32) (g : Channel → Channel) :
    (s.setWindow id x).mapChan c g =
      { s with windows := s.windows.set id x, channels := s.channels.set c (g (s.chan c)) } := rfl

/-- The log writer changes neither table, so the update after a record is that of the tables before it. -/
theorem State.record_setWindow_mapChan (s : State) (r : Record) (id : Fin 48) (x : Option Window) (c : Fin 32)
    (g : Channel → Channel) : ((s.record r).setWindow id x).mapChan c g =
      { s.record r with windows := s.windows.set id x, channels := s.channels.set c (g (s.chan c)) } := by
  rw [State.setWindow_mapChan, State.record_windows, State.record_channels, State.chan_record]

/-! ## WINDOW_DROP (R132) -/

theorem State.dropWindow_of_not_active (s : State) (id : Fin 48) {w : Window} (h : w.state ≠ .active) :
    s.dropWindow id w = s.removeWindow id w .dropped :=
  if_neg h

theorem State.dropWindow_of_active (s : State) (id : Fin 48) {w : Window} (h : w.state = .active) :
    s.dropWindow id w = (s.removeWindow id w .dropped).mapChan w.channel Channel.toReturnWait :=
  if_pos h

theorem State.windowDrop_range (s : State) (t : Ticket) {window : Nat} (h : 47 < window) :
    s.windowDrop t window = s.respond t.seq 8 .refusedRange 0 t.slot :=
  dif_neg (by omega)

theorem State.windowDrop_empty (s : State) (t : Ticket) {id : Fin 48} (h : s.window id = none) :
    s.windowDrop t id = s.respond t.seq 8 .refusedState 1 t.slot := by
  simp [State.windowDrop, h]

theorem State.windowDrop_filled (s : State) (t : Ticket) {id : Fin 48} {w : Window} (h : s.window id = some w) :
    s.windowDrop t id = (s.dropWindow id w).respond t.seq 8 .done 0 t.slot := by
  simp [State.windowDrop, h]

theorem exec_windowDrop_inHand {s : State} {seq slot window : Nat} (h : s.inHand (.windowDrop seq slot window)) :
    exec (.windowDrop seq slot window) s = .next (s.taken.windowDrop ⟨seq, slot⟩ window) :=
  congrArg Host.Outcome.next (State.takeDirective_of _ h)

/-! ## The place of a window in its channel's list (R123) -/

/-- The placed window splits the list: no window in front of it starts after it, and the first one behind it does. -/
theorem insertWindow_splits (startOf : Fin 48 → Pts) (id : Fin 48) (start : Pts) (l : List (Fin 48)) :
    ∃ front back, l = front ++ back ∧ (∀ k ∈ front, isAfter (startOf k) start = false) ∧
      (∀ k, back.head? = some k → isAfter (startOf k) start = true) ∧
      insertWindow startOf id start l = front ++ id :: back := by
  induction l with
  | nil => exact ⟨[], [], by simp [insertWindow]⟩
  | cons x xs ih =>
    cases after : isAfter (startOf x) start with
    | true => exact ⟨[], x :: xs, by simp [insertWindow, after]⟩
    | false =>
      obtain ⟨front, back, rfl, inFront, behind, placed⟩ := ih
      exact ⟨x :: front, back, by simpa [insertWindow, after, placed] using ⟨inFront, behind⟩⟩

theorem State.windowStart_of_window {s : State} {id : Fin 48} {w : Window} (h : s.window id = some w) :
    s.windowStart id = w.start := by
  simp [State.windowStart, h]

/-- `insertWindow_splits` for an accepted window, the starts being those of the records that hold windows. -/
theorem State.addWindow_splits (s : State) (id : Fin 48) (w : Window) :
    ∃ front back, (s.chan w.channel).windows = front ++ back ∧
      (∀ k ∈ front, ∀ x, s.window k = some x → isAfter x.start w.start = false) ∧
      (∀ k, back.head? = some k → ∀ x, s.window k = some x → isAfter x.start w.start = true) ∧
      s.addWindow id w =
        (s.setWindow id (some w)).mapChan w.channel fun ch => { ch with windows := front ++ id :: back } := by
  obtain ⟨front, back, splits, inFront, behind, placed⟩ :=
    insertWindow_splits s.windowStart id w.start (s.chan w.channel).windows
  refine ⟨front, back, splits, fun k member x held => ?_, fun k first x held => ?_, ?_⟩
  · rw [← State.windowStart_of_window held]
    exact inFront k member
  · rw [← State.windowStart_of_window held]
    exact behind k first
  · rw [← placed]
    rfl

/-! ## The tests of WINDOW_ADD (R122) -/

theorem State.windowsFull_iff (s : State) : s.windowsFull = true ↔ ∀ k : Fin 48, s.window k ≠ none := by
  simp [State.windowsFull, Option.isSome_iff_ne_none]

theorem Channel.enabled_iff (ch : Channel) : ch.enabled = true ↔ ch.state ≠ .off := by
  simp [Channel.enabled]

/-- As the channel's list names exactly the channel's window records (R121), the overlap test sees every one of them. -/
theorem State.windowClash_iff {s : State} (listed : s.windowsListed) (c : Fin 32) (start stop : Pts) :
    s.windowClash c start stop = true ↔ ∃ (k : Fin 48) (w : Window), s.window k = some w ∧ w.channel = c ∧
      isAfter stop w.start = true ∧ isAfter w.stop start = true := by
  obtain ⟨-, named, -⟩ := listed c
  simp only [State.windowClash, windowsOverlap, List.any_eq_true, Option.any_eq_true, Bool.and_eq_true]
  constructor
  · rintro ⟨k, inList, w, held, before, behind⟩
    obtain ⟨w', held', ofChannel⟩ := (named k).1 inList
    obtain rfl : w' = w := Option.some.inj (held'.symm.trans held)
    exact ⟨k, w', held, ofChannel, before, behind⟩
  · rintro ⟨k, w, held, ofChannel, before, behind⟩
    exact ⟨k, (named k).2 ⟨w, held, ofChannel⟩, w, held, before, behind⟩

section
variable {s : State} {id : Fin 48} {w : Window}

theorem State.windowAddTest_not_after (h : isAfter w.stop w.start = false) :
    s.windowAddTest id w = some (.refusedRange, 0) := by
  simp [State.windowAddTest, h]

theorem State.windowAddTest_full (after : isAfter w.stop w.start = true) (h : s.windowsFull = true) :
    s.windowAddTest id w = some (.refusedFull, 0) := by
  simp [State.windowAddTest, after, h]

theorem State.windowAddTest_occupied (after : isAfter w.stop w.start = true) (room : ¬ s.windowsFull = true)
    (h : s.window id ≠ none) : s.windowAddTest id w = some (.refusedState, 1) := by
  simp [State.windowAddTest, after, room, Option.isSome_iff_ne_none, h]

theorem State.windowAddTest_off (after : isAfter w.stop w.start = true) (room : ¬ s.windowsFull = true)
    (empty : s.window id = none) (h : ¬ (s.chan w.channel).enabled = true) :
    s.windowAddTest id w = some (.refusedState, 2) := by
  simp [State.windowAddTest, after, room, empty, h]

theorem State.windowAddTest_clash (after : isAfter w.stop w.start = true) (room : ¬ s.windowsFull = true)
    (empty : s.window id = none) (on : (s.chan w.channel).enabled = true)
    (h : s.windowClash w.channel w.start w.stop = true) : s.windowAddTest id w = some (.refusedState, 3) := by
  simp [State.windowAddTest, after, room, empty, on, h]

theorem State.windowAddTest_passed (after : isAfter w.stop w.start = true) (room : ¬ s.windowsFull = true)
    (empty : s.window id = none) (on : (s.chan w.channel).enabled = true)
    (h : ¬ s.windowClash w.channel w.start w.stop = true) : s.windowAddTest id w = none := by
  simp [State.windowAddTest, after, room, empty, on, h]

end

/-! ## WINDOW_ADD (R122, R123) -/

theorem State.windowAdd_range (s : State) (t : Ticket) {f : WindowAddFields}
    (h : 47 < f.window ∨ 31 < f.channel ∨ 3 < f.feed ∨ 2 ^ 33 ≤ f.start ∨ 2 ^ 33 ≤ f.stop) :
    s.windowAdd t f = s.respond t.seq 7 .refusedRange 0 t.slot :=
  dif_neg (by omega)

/-- The fields of a WINDOW_ADD that asks for this window under this id. -/
def Window.addFields (w : Window) (id : Fin 48) : WindowAddFields :=
  ⟨id, w.channel, w.feed, w.start.toNat, w.stop.toNat⟩

theorem Window.addFields_of_fields {f : WindowAddFields} {id : Fin 48} {w : Window} (isWindow : f.window = id)
    (isChannel : f.channel = w.channel) (isFeed : f.feed = w.feed) (isStart : f.start = w.start.toNat)
    (isStop : f.stop = w.stop.toNat) : f = w.addFields id := by
  cases f
  simp_all [Window.addFields]

/-- In range, the fields name the SCHEDULED window that R122 tests. -/
theorem State.windowAdd_addFields (s : State) (t : Ticket) (id : Fin 48) {w : Window} (scheduled : w.state = .scheduled) :
    s.windowAdd t (w.addFields id) =
      (s.windowAddTest id w).elim ((s.addWindow id w).respond t.seq 7 .done 0 t.slot) fun r =>
        s.respond t.seq 7 r.1 r.2 t.slot := by
  obtain ⟨c, feed, start, stop, state⟩ := w
  subst scheduled
  simp only [State.windowAdd, Window.addFields, id.isLt, c.isLt, feed.isLt, start.isLt, stop.isLt, and_self, dite_true,
    BitVec.ofNat_toNat, BitVec.setWidth_eq, Fin.eta]
  cases s.windowAddTest id ⟨c, feed, start, stop, .scheduled⟩ <;> rfl

theorem exec_windowAdd_inHand {s : State} {seq slot : Nat} {f : WindowAddFields} (h : s.inHand (.windowAdd seq slot f)) :
    exec (.windowAdd seq slot f) s = .next (s.taken.windowAdd ⟨seq, slot⟩ f) :=
  congrArg Host.Outcome.next (State.takeDirective_of _ h)

section
variable {s : State} {seq slot : Nat} {id : Fin 48} {w : Window}

theorem exec_windowAdd_refused {r : DirectiveResult} {detail : Nat} (inHand : s.inHand (.windowAdd seq slot (w.addFields id)))
    (scheduled : w.state = .scheduled) (h : s.taken.windowAddTest id w = some (r, detail)) :
    exec (.windowAdd seq slot (w.addFields id)) s = .next (s.taken.respond seq 7 r detail slot) := by
  rw [exec_windowAdd_inHand inHand, State.windowAdd_addFields _ _ id scheduled, h]
  rfl

theorem exec_windowAdd_accepted (inHand : s.inHand (.windowAdd seq slot (w.addFields id))) (scheduled : w.state = .scheduled)
    (h : s.taken.windowAddTest id w = none) :
    exec (.windowAdd seq slot (w.addFields id)) s = .next ((s.taken.addWindow id w).respond seq 7 .done 0 slot) := by
  rw [exec_windowAdd_inHand inHand, State.windowAdd_addFields _ _ id scheduled, h]
  rfl

end

end Sys2Proof.Machine

namespace Sys2Proof.Certificates.Slice0

open Sys2Proof.Machine

/-- Settles O36: the tests of R132 in their order, each by its equation of `State.windowDrop` in the state with the directive taken;
the removal by `State.removeWindow_eq`, to which an ACTIVE window's drop joins the channel's move to RETURN_WAIT. -/
theorem windowDropRemovesTheWindow : Obligations.WindowDropRemovesTheWindow := by
  intro s seq slot window inHand
  rw [exec_windowDrop_inHand inHand]
  refine ⟨fun range => ?_, fun id isWindow => ?_⟩
  · rw [State.windowDrop_range _ _ range]
  · subst isWindow
    refine ⟨fun empty => ?_, fun w held => ?_⟩
    · rw [State.windowDrop_empty s.taken _ empty]
    · rw [State.windowDrop_filled s.taken _ held]
      refine ⟨fun notActive => ?_, fun active => ?_⟩
      · rw [State.dropWindow_of_not_active _ _ notActive, State.removeWindow_eq, State.record_setWindow_mapChan]
        rfl
      · rw [State.dropWindow_of_active _ _ active, State.removeWindow_eq, State.mapChan_mapChan, State.record_setWindow_mapChan]
        rfl

/-- Settles O35: the tests of R122 in their order, each deciding `State.windowAddTest` in the state with the directive taken, whose
windows and channels are those of `s`; the accepted window's place by `State.addWindow_splits`. -/
theorem windowAddListsTheWindow : Obligations.WindowAddListsTheWindow := by
  intro s seq slot f listed inHand
  refine ⟨fun range => ?_, fun id c feed start stop isWindow isChannel isFeed isStart isStop => ?_⟩
  · rw [exec_windowAdd_inHand inHand, State.windowAdd_range _ _ range]
  · obtain rfl := Window.addFields_of_fields (w := ⟨c, feed, start, stop, .scheduled⟩) isWindow isChannel isFeed isStart isStop
    have sees := State.windowClash_iff (s := s.taken) listed c start stop
    refine ⟨fun notAfter => ?_, fun after => ⟨fun full => ?_, fun ⟨k, free⟩ => ?_⟩⟩
    · exact exec_windowAdd_refused inHand rfl (State.windowAddTest_not_after notAfter)
    · exact exec_windowAdd_refused inHand rfl (State.windowAddTest_full after ((State.windowsFull_iff _).2 full))
    · have room : ¬ s.taken.windowsFull = true := fun full => (State.windowsFull_iff _).1 full k free
      refine ⟨fun occupied => ?_, fun empty => ⟨fun off => ?_, fun notOff => ?_⟩⟩
      · exact exec_windowAdd_refused inHand rfl (State.windowAddTest_occupied after room occupied)
      · exact exec_windowAdd_refused inHand rfl
          (State.windowAddTest_off after room empty (mt (Channel.enabled_iff _).1 (not_not_intro off)))
      · have on : (s.chan c).enabled = true := (Channel.enabled_iff _).2 notOff
        refine ⟨fun clash => ?_, fun noClash => ?_⟩
        · exact exec_windowAdd_refused inHand rfl (State.windowAddTest_clash after room empty on (sees.2 clash))
        · obtain ⟨front, back, splits, inFront, behind, added⟩ := s.taken.addWindow_splits id ⟨c, feed, start, stop, .scheduled⟩
          refine ⟨front, back, splits, inFront, behind, ?_⟩
          rw [exec_windowAdd_accepted inHand rfl (State.windowAddTest_passed after room empty on (mt sees.1 noClash)), added]
          rfl

end Sys2Proof.Certificates.Slice0

/-! The directives that change the alert settings: the codes of the queue modes and of the edits, the edits of a group channel by
channel, and each outcome of ALERT_MODE and of GROUP_EDIT (R167, R168). -/

namespace Sys2Proof.Machine

/-! ## ALERT_MODE (R167) -/

theorem QueueMode.ofCode_of_one_lt {mode : Nat} (h : 1 < mode) : QueueMode.ofCode mode = none := by
  match mode, h with
  | _ + 2, _ => rfl

theorem QueueMode.ofCode_of_le_one {mode : Nat} (h : mode ≤ 1) :
    QueueMode.ofCode mode = some (if mode = 1 then .holdLast else .mayEmpty) := by
  match mode, h with
  | 0, _ => rfl
  | 1, _ => rfl

theorem State.alertMode_range (s : State) (t : Ticket) {mode : Nat} (h : QueueMode.ofCode mode = none) :
    s.alertMode t mode = s.respond t.seq 12 .refusedRange 0 t.slot := by
  simp only [State.alertMode, h]

theorem State.alertMode_current (s : State) (t : Ticket) {mode : Nat} {m : QueueMode} (hm : QueueMode.ofCode mode = some m)
    (h : s.alerts.current ≠ none) : s.alertMode t mode = s.respond t.seq 12 .refusedState 1 t.slot := by
  simp only [State.alertMode, hm, if_pos (Option.isSome_iff_ne_none.2 h)]

theorem State.alertMode_idle (s : State) (t : Ticket) {mode : Nat} {m : QueueMode} (hm : QueueMode.ofCode mode = some m)
    (h : s.alerts.current = none) : s.alertMode t mode =
      ({ s with alerts := { s.alerts with mode := m } } : State).respond t.seq 12 .done 0 t.slot := by
  simp [State.alertMode, hm, h]

theorem exec_alertMode_inHand {s : State} {seq slot mode : Nat} (h : s.inHand (.alertMode seq slot mode)) :
    exec (.alertMode seq slot mode) s = .next (s.taken.alertMode ⟨seq, slot⟩ mode) :=
  congrArg Host.Outcome.next (State.takeDirective_of _ h)

/-! ## GROUP_EDIT (R168) -/

theorem editGroup_of_two_lt {mode : Nat} (h : 2 < mode) (group mask : ChannelMask) : editGroup mode group mask = none := by
  match mode, h with
  | _ + 3, _ => rfl

/-- A directive's mask names the channels by its bits (R168). -/
theorem ChannelMask.getLsbD_ofNat (mask : Nat) (c : Fin 32) : (BitVec.ofNat 32 mask).getLsbD c = mask.testBit c := by
  rw [BitVec.getLsbD_ofNat, decide_eq_true c.isLt, Bool.true_and]

theorem ChannelMask.getLsbD_or_ofNat (group : ChannelMask) (mask : Nat) (c : Fin 32) :
    (group ||| BitVec.ofNat 32 mask).getLsbD c = (group.getLsbD c || mask.testBit c) := by
  rw [BitVec.getLsbD_or, ChannelMask.getLsbD_ofNat]

theorem ChannelMask.getLsbD_and_not_ofNat (group : ChannelMask) (mask : Nat) (c : Fin 32) :
    (group &&& ~~~BitVec.ofNat 32 mask).getLsbD c = (group.getLsbD c && !mask.testBit c) := by
  rw [BitVec.getLsbD_and, BitVec.getLsbD_not, decide_eq_true c.isLt, Bool.true_and, ChannelMask.getLsbD_ofNat]

theorem State.groupEdit_group_range (s : State) (t : Ticket) {group : Nat} (mode mask : Nat) (h : 7 < group) :
    s.groupEdit t group mode mask = s.respond t.seq 9 .refusedRange 0 t.slot :=
  dif_neg (by omega)

theorem State.groupEdit_mode_range (s : State) (t : Ticket) (group : Nat) {mode : Nat} (mask : Nat) (h : 2 < mode) :
    s.groupEdit t group mode mask = s.respond t.seq 9 .refusedRange 0 t.slot := by
  simp [State.groupEdit, editGroup_of_two_lt h]

theorem State.groupEdit_edited (s : State) (t : Ticket) (g : Fin 8) {mode mask : Nat} {edited : ChannelMask}
    (h : editGroup mode s.alerts.groups[g] (BitVec.ofNat 32 mask) = some edited) : s.groupEdit t g mode mask =
      ({ s with alerts := { s.alerts with groups := s.alerts.groups.set g edited } } : State).respond t.seq 9 .done 0 t.slot := by
  rw [Fin.getElem_fin] at h
  simp only [State.groupEdit, g.isLt, dite_true, h]

theorem exec_groupEdit_inHand {s : State} {seq slot group mode mask : Nat} (h : s.inHand (.groupEdit seq slot group mode mask)) :
    exec (.groupEdit seq slot group mode mask) s = .next (s.taken.groupEdit ⟨seq, slot⟩ group mode mask) :=
  congrArg Host.Outcome.next (State.takeDirective_of _ h)

theorem exec_groupEdit_edited {s : State} {seq slot mode mask : Nat} {g : Fin 8} {edited : ChannelMask}
    (inHand : s.inHand (.groupEdit seq slot g mode mask))
    (h : editGroup mode s.alerts.groups[g] (BitVec.ofNat 32 mask) = some edited) : exec (.groupEdit seq slot g mode mask) s =
      .next (({ s.taken with alerts := { s.alerts with groups := s.alerts.groups.set g edited } } : State).respond
        seq 9 .done 0 slot) := by
  rw [exec_groupEdit_inHand inHand, State.groupEdit_edited s.taken _ g h]
  rfl

end Sys2Proof.Machine

namespace Sys2Proof.Certificates.Slice0

open Sys2Proof.Machine

/-- Settles O41: the tests of R167 and of R168 in their order, each by its equation of `State.alertMode` or of `State.groupEdit` in
the state with the directive taken, whose alert settings are those of `s`; an edit that is made by its kind, with its mask read
channel by channel. -/
theorem modeAndGroupsAreEdited : Obligations.ModeAndGroupsAreEdited := by
  intro s seq slot
  refine ⟨fun mode inHand => ?_, fun group mode mask inHand => ⟨fun range => ?_, fun g isGroup isMode => ?_⟩⟩
  · rw [exec_alertMode_inHand inHand]
    refine ⟨fun range => ?_, fun isMode current => ?_, fun isMode idle => ?_⟩
    · rw [State.alertMode_range _ _ (QueueMode.ofCode_of_one_lt range)]
    · rw [State.alertMode_current s.taken _ (QueueMode.ofCode_of_le_one isMode) current]
    · rw [State.alertMode_idle s.taken _ (QueueMode.ofCode_of_le_one isMode) idle]
      rfl
  · rw [exec_groupEdit_inHand inHand]
    rcases range with groupRange | modeRange
    · rw [State.groupEdit_group_range _ _ _ _ groupRange]
    · rw [State.groupEdit_mode_range _ _ _ _ modeRange]
  · subst isGroup
    match mode, isMode with
    | 0, _ => exact ⟨_, exec_groupEdit_edited inHand rfl, ChannelMask.getLsbD_ofNat mask⟩
    | 1, _ => exact ⟨_, exec_groupEdit_edited inHand rfl, ChannelMask.getLsbD_or_ofNat _ mask⟩
    | 2, _ => exact ⟨_, exec_groupEdit_edited inHand rfl, ChannelMask.getLsbD_and_not_ofNat _ mask⟩

end Sys2Proof.Certificates.Slice0

namespace Sys2Proof.Machine

/-! ## Requests to the arbiter -/

/-- The arbiter's list with requests of the part's blocks added, each with the next tag and none of them a verification read. -/
inductive Bus.Grows (b : Bus) : Bus → Prop where
  | refl : Bus.Grows b b
  | request {b' : Bus} (h : Bus.Grows b b') (x : Txn) (tag : x.id = b'.next) (time : x.time ≤ b'.next)
      (other : x.owner.verifies = false) : Bus.Grows b { b' with txns := b'.txns ++ [x], next := b'.next + 1 }

theorem Bus.Grows.read {b b' : Bus} (h : b.Grows b') (cls addr len : Nat) {owner : Owner} (other : owner.verifies = false) :
    b.Grows (b'.read cls addr len owner) :=
  h.request _ rfl (Nat.le_refl _) other

theorem Bus.Grows.write {b b' : Bus} (h : b.Grows b') (addr : Nat) (data : List Byte) {owner : Owner}
    (other : owner.verifies = false) : b.Grows (b'.write addr data owner) :=
  h.request _ rfl (Nat.le_refl _) other

theorem Bus.Grows.trans {b b' b'' : Bus} (h : b.Grows b') (k : b'.Grows b'') : b.Grows b'' := by
  induction k with
  | refl => exact h
  | request _ x tag time other ih => exact ih.request x tag time other

/-! ## Channels whose events and windows stay -/

/-- What the invariants of a channel look at: its event ids and its windows. -/
def Channel.keys (ch : Channel) : List Nat × Option Nat × List Nat × List (Fin 48) × Option (Fin 48) :=
  (ch.queue.map AvailEvent.event, ch.avail.map CurrentAvail.event, ch.recent, ch.windows, ch.window)

theorem Channel.eventsApart_of_keys {ch ch' : Channel} (k : ch'.keys = ch.keys) (h : ch.eventsApart) : ch'.eventsApart := by
  simp only [Channel.keys, Prod.mk.injEq] at k
  obtain ⟨queue, avail, recent, -, -⟩ := k
  have len : ch'.queue.length = ch.queue.length := by simpa using congrArg List.length queue
  have playing : ch'.avail.toList.map CurrentAvail.event = ch.avail.toList.map CurrentAvail.event := by
    simpa [Option.toList_map] using congrArg Option.toList avail
  unfold Channel.eventsApart
  rw [len, recent, queue, playing]
  exact h

/-! ## What every operation keeps -/

/-- The commands that wait are the same, and each invariant that holds in `s` holds in `t`, those of the clip store left out: a
preorder, so that an operation made of others keeps what they keep. -/
structure State.KeepsOthers (s t : State) : Prop where
  pending : t.pending = s.pending := by rfl
  tags : s.tagsApart → t.tagsApart := by exact fun h => h
  log : s.log.inPlace → t.log.inPlace := by exact fun h => h
  events : ∀ c, (s.chan c).eventsApart → (t.chan c).eventsApart := by exact fun _ h => h
  alerts : s.alerts.inOrder → t.alerts.inOrder := by exact fun h => h
  windows : s.windowsListed → t.windowsListed := by exact fun h => h
  keys : s.keysApart → t.keysApart := by exact fun h => h
  rings : s.dir.inRings → t.dir.inRings := by exact fun h => h

theorem State.KeepsOthers.trans {a s t : State} (h : a.KeepsOthers s) (k : s.KeepsOthers t) : a.KeepsOthers t where
  pending := k.pending.trans h.pending
  tags x := k.tags (h.tags x)
  log x := k.log (h.log x)
  events c x := k.events c (h.events c x)
  alerts x := k.alerts (h.alerts x)
  windows x := k.windows (h.windows x)
  keys x := k.keys (h.keys x)
  rings x := k.rings (h.rings x)

/-- The commands that wait are the same, and each invariant that holds in `s` holds in `t`, those of the clip store where the tags
are apart. -/
structure State.Keeps (s t : State) : Prop extends State.KeepsOthers s t where
  clips : s.tagsApart → s.oneVerifies ∧ s.clipsApart → t.oneVerifies ∧ t.clipsApart := by exact fun _ h => h

namespace State.Keeps

variable {a s t : State}

@[refl] theorem refl : s.Keeps s := {}

@[trans] theorem trans (h : a.Keeps s) (k : s.Keeps t) : a.Keeps t where
  toKeepsOthers := h.toKeepsOthers.trans k.toKeepsOthers
  clips x y := k.clips (h.tags x) (h.clips x y)

theorem foldl {α : Type} {f : State → α → State} (step : ∀ (s : State) (x : α), s.Keeps (f s x)) (l : List α) (h : a.Keeps s) :
    a.Keeps (l.foldl f s) := by
  induction l generalizing s with
  | nil => exact h
  | cons x l ih => exact ih (h.trans (step s x))

/-! ## One lemma per part of the state -/

theorem mapReceiver (h : a.Keeps s) {f : Receiver → Receiver} : a.Keeps (s.mapReceiver f) := h.trans {}

theorem mapFeed (h : a.Keeps s) {n : Fin 6} {f : FeedTracker → FeedTracker} : a.Keeps (s.mapFeed n f) := h.trans {}

theorem atTime (h : a.Keeps s) {t : Nat} : a.Keeps (s.atTime t) := h.trans {}

theorem setLog (h : a.Keeps s) {l : LogWriter} (k : s.log.inPlace → l.inPlace) : a.Keeps { s with log := l } :=
  h.trans { log := k }

theorem setDir (h : a.Keeps s) {d : DirectiveUnit} (k : s.dir.inRings → d.inRings) : a.Keeps { s with dir := d } :=
  h.trans { rings := k }

theorem setAlerts (h : a.Keeps s) {x : AlertControl} (k : s.alerts.inOrder → x.inOrder) : a.Keeps { s with alerts := x } :=
  h.trans { alerts := k }

/-- A change of one channel, which may make a window of the channel its current one. -/
theorem mapChan (h : a.Keeps s) {c : Fin 32} {f : Channel → Channel}
    (events : (s.chan c).eventsApart → (f (s.chan c)).eventsApart) (windows : (f (s.chan c)).windows = (s.chan c).windows)
    (current : ∀ id, (f (s.chan c)).window = some id →
      (s.chan c).window = some id ∨ ∃ w, s.window id = some w ∧ w.channel = c) : a.Keeps (s.mapChan c f) := by
  refine h.trans { events := fun d x => ?_, windows := fun x d => ?_ }
  · by_cases e : d = c
    · subst e
      rw [State.chan_mapChan_self]
      exact events x
    · rwa [State.chan_mapChan_ne _ _ e]
  · by_cases e : d = c
    · subst e
      obtain ⟨nodup, named, listed⟩ := x d
      rw [State.chan_mapChan_self, windows]
      exact ⟨nodup, named, fun id hid => (current id hid).elim (listed id) (named id).2⟩
    · rw [State.chan_mapChan_ne _ _ e]
      exact x d

/-- A change of a channel that leaves its event ids and its windows. -/
theorem quietChan (h : a.Keeps s) {c : Fin 32} {f : Channel → Channel}
    (k : (f (s.chan c)).keys = (s.chan c).keys := by rfl) : a.Keeps (s.mapChan c f) := by
  have k' := k
  simp only [Channel.keys, Prod.mk.injEq] at k'
  obtain ⟨-, -, -, windows, window⟩ := k'
  exact h.mapChan (Channel.eventsApart_of_keys k) windows fun id hid => .inl (window ▸ hid)

/-- A change of a clip record that leaves its state and its range. -/
theorem quietClip (h : a.Keeps s) {n : Fin 64} {f : Clip → Clip} (state : (f (s.clip n)).state = (s.clip n).state := by rfl)
    (base : (f (s.clip n)).base = (s.clip n).base := by rfl) (cells : (f (s.clip n)).cells = (s.clip n).cells := by rfl) :
    a.Keeps (s.mapClip n f) := by
  have same (k : Fin 64) : ((s.mapClip n f).clip k).state = (s.clip k).state ∧ ((s.mapClip n f).clip k).has = (s.clip k).has := by
    by_cases e : k = n
    · subst e
      rw [State.clip_mapClip_self]
      exact ⟨state, by unfold Clip.has; rw [base, cells]⟩
    · rw [State.clip_mapClip_ne _ _ e]
      exact ⟨rfl, rfl⟩
  refine h.trans { clips := fun _ x => ?_ }
  simpa only [State.oneVerifies, State.clipsApart, (same _).1, (same _).2, State.mapClip_verifyQueue, State.mapClip_bus,
    State.mapClip_verifyRead] using x

end State.Keeps
end Sys2Proof.Machine

namespace Sys2Proof.Machine

/-! ## The arbiter's list and the verification reads -/

theorem exists_verifies_iff (l : List Txn) : (∃ x ∈ l, x.owner.verifies = true) ↔ 0 < (l.filter fun x => x.owner.verifies).length := by
  simp [List.length_pos_iff_exists_mem]

/-- R66, R67 but for what a pass about to begin, or a read about to be asked for, leaves open for a moment. -/
structure State.PassesInOrder (s : State) : Prop where
  one : ∀ n k : Fin 64, (s.clip n).state = .verifying → (s.clip k).state = .verifying → n = k
  nodup : s.verifyQueue.Nodup
  queued : ∀ n : Fin 64, n ∈ s.verifyQueue ↔ (s.clip n).state = .queued
  own : ∀ x ∈ s.bus.txns, s.verifyRead = some x.id → ∃ n : Fin 64, x.owner = .verify n ∧ (s.clip n).state = .verifying
  tag : ∀ id, s.verifyRead = some id → id < s.bus.next
  atMost : (s.bus.txns.filter fun x => x.owner.verifies).length ≤ 1

/-- While a clip is VERIFYING a verification read is outstanding. -/
def State.reading (s : State) : Prop :=
  (∃ n : Fin 64, (s.clip n).state = .verifying) → ∃ x ∈ s.bus.txns, x.owner.verifies = true

theorem State.oneVerifies_iff (s : State) : s.oneVerifies ↔
    s.PassesInOrder ∧ (s.verifyQueue ≠ [] → ∃ n : Fin 64, (s.clip n).state = .verifying) ∧ s.reading := by
  constructor
  · rintro ⟨one, nodup, queued, waits, own, tag, atMost, atLeast⟩
    exact ⟨⟨one, nodup, queued, own, tag, atMost⟩, waits, atLeast⟩
  · rintro ⟨⟨one, nodup, queued, own, tag, atMost⟩, waits, atLeast⟩
    exact ⟨one, nodup, queued, waits, own, tag, atMost, atLeast⟩

/-- A change of the arbiter's list that leaves the verification reads, and makes only new tags, leaves the passes in order. -/
theorem State.PassesInOrder.of_bus {s : State} {b : Bus} (h : s.PassesInOrder)
    (reads : (b.txns.filter fun x => x.owner.verifies).length ≤ (s.bus.txns.filter fun x => x.owner.verifies).length)
    (known : ∀ x ∈ b.txns, (∃ y ∈ s.bus.txns, y.id = x.id ∧ y.owner = x.owner) ∨ s.bus.next ≤ x.id)
    (next : s.bus.next ≤ b.next) : ({ s with bus := b } : State).PassesInOrder where
  one := h.one
  nodup := h.nodup
  queued := h.queued
  own x hx read := by
    rcases known x hx with ⟨y, hy, hid, howner⟩ | new
    · obtain ⟨n, hn, hv⟩ := h.own y hy (read.trans (congrArg some hid.symm))
      exact ⟨n, howner.symm.trans hn, hv⟩
    · exact absurd (h.tag _ read) (Nat.not_lt.2 new)
  tag id read := Nat.lt_of_lt_of_le (h.tag id read) next
  atMost := reads.trans h.atMost

theorem State.reading.of_bus {s : State} {b : Bus} (h : s.reading)
    (reads : (b.txns.filter fun x => x.owner.verifies).length = (s.bus.txns.filter fun x => x.owner.verifies).length) :
    ({ s with bus := b } : State).reading := fun hv =>
  (exists_verifies_iff _).2 (reads ▸ (exists_verifies_iff _).1 (h hv))

theorem State.oneVerifies_of_bus {s : State} {b : Bus} (h : s.oneVerifies)
    (reads : (b.txns.filter fun x => x.owner.verifies).length = (s.bus.txns.filter fun x => x.owner.verifies).length)
    (known : ∀ x ∈ b.txns, (∃ y ∈ s.bus.txns, y.id = x.id ∧ y.owner = x.owner) ∨ s.bus.next ≤ x.id)
    (next : s.bus.next ≤ b.next) : ({ s with bus := b } : State).oneVerifies := by
  obtain ⟨order, waits, reading⟩ := s.oneVerifies_iff.1 h
  exact (State.oneVerifies_iff _).2 ⟨order.of_bus reads.le known next, waits, reading.of_bus reads⟩

/-- What requests of the part's blocks other than verification reads do to the list. -/
theorem Bus.Grows.spec {b b' : Bus} (h : b.Grows b') :
    (b'.txns.filter fun x => x.owner.verifies) = (b.txns.filter fun x => x.owner.verifies) ∧
      (∀ x ∈ b'.txns, (∃ y ∈ b.txns, y.id = x.id ∧ y.owner = x.owner) ∨ b.next ≤ x.id) ∧ b.next ≤ b'.next := by
  induction h with
  | refl => exact ⟨rfl, fun x hx => .inl ⟨x, hx, rfl, rfl⟩, Nat.le_refl _⟩
  | request _ x tag time other ih =>
    obtain ⟨reads, known, next⟩ := ih
    refine ⟨by simp [other, reads], fun y hy => ?_, next.trans (Nat.le_succ _)⟩
    rcases List.mem_append.1 hy with old | new
    · exact known y old
    · cases List.mem_singleton.1 new
      exact .inr (tag ▸ next)

/-- A request keeps the tags apart. -/
theorem State.tagsApart_request {s : State} (h : s.tagsApart) (x : Txn) (tag : x.id = s.bus.next) (time : x.time ≤ s.bus.next) :
    ({ s with bus := { s.bus with txns := s.bus.txns ++ [x], next := s.bus.next + 1 } } : State).tagsApart := by
  obtain ⟨room, entries, entryTags, txns, txnTags⟩ := h
  refine ⟨room, entries, fun e he => Nat.lt_succ_of_lt (entryTags e he), ?_, ?_⟩
  · rw [List.map_append]
    refine List.nodup_append.2 ⟨txns, by simp, fun i hi j hj => ?_⟩
    obtain ⟨y, hy, rfl⟩ := List.mem_map.1 hi
    have := (txnTags y hy).1
    simp at hj
    omega
  · intro y hy
    rcases List.mem_append.1 hy with old | new
    · have := txnTags y old
      dsimp only
      omega
    · cases List.mem_singleton.1 new
      dsimp only
      omega

/-- Transactions that leave the list keep the tags apart. -/
theorem State.tagsApart_withdraw {s : State} (h : s.tagsApart) (p : Txn → Bool) :
    ({ s with bus := { s.bus with txns := s.bus.txns.filter p } } : State).tagsApart := by
  obtain ⟨room, entries, entryTags, txns, txnTags⟩ := h
  exact ⟨room, entries, entryTags, txns.sublist (List.filter_sublist.map _), fun x hx => txnTags x (List.mem_of_mem_filter hx)⟩

namespace State.Keeps

variable {a s t : State}

/-- Requests of the part's blocks. -/
theorem setBus (h : a.Keeps s) {b : Bus} (g : s.bus.Grows b) : a.Keeps { s with bus := b } := by
  refine h.trans { tags := fun k => ?_, clips := fun _ k => ⟨?_, k.2⟩ }
  · induction g with
    | refl => exact k
    | request _ x tag time _ ih => exact State.tagsApart_request ih x tag time
  · obtain ⟨reads, known, next⟩ := g.spec
    exact State.oneVerifies_of_bus k.1 (congrArg List.length reads) known next

/-- Transactions other than verification reads leave the arbiter's list. -/
theorem withdraw (h : a.Keeps s) {p : Txn → Bool} (reads : s.tagsApart → ∀ x ∈ s.bus.txns, x.owner.verifies = true → p x = true) :
    a.Keeps { s with bus := { s.bus with txns := s.bus.txns.filter p } } := by
  refine h.trans { tags := fun k => State.tagsApart_withdraw k p, clips := fun tags k => ⟨?_, k.2⟩ }
  · refine State.oneVerifies_of_bus k.1 ?_ (fun x hx => .inl ⟨x, List.mem_of_mem_filter hx, rfl, rfl⟩) (Nat.le_refl _)
    rw [List.filter_filter]
    exact congrArg List.length (List.filter_congr fun x hx => by
      by_cases v : x.owner.verifies = true
      · simp [v, reads tags x hx v]
      · simp [v])

/-- A transaction that is no verification read leaves the list. -/
theorem leaveList (h : a.Keeps s) {x : Txn} (mem : x ∈ s.bus.txns) (other : x.owner.verifies = false) :
    a.Keeps (s.completeTxn x.id) := by
  refine h.withdraw fun tags y hy v => ?_
  obtain ⟨-, -, -, nodup, -⟩ := tags
  rw [bne_iff_ne]
  intro e
  cases List.inj_on_of_nodup_map nodup hy mem e
  rw [v] at other
  cases other

/-- The completion of a transaction that is no verification read. -/
theorem completeTxn (h : a.Keeps s) {x : Txn} {id : Nat} (routed : s.bus.issuedTxn id = some x) (other : x.owner.verifies = false) :
    a.Keeps (s.completeTxn id) := by
  obtain ⟨mem, rfl, -⟩ := Bus.issuedTxn_spec routed
  exact h.leaveList mem other

/-- Transactions are marked in the arbiter's list, and nothing else. -/
theorem markBus (h : a.Keeps s) {b : Bus} (f : Txn → Txn) (txns : b.txns = s.bus.txns.map f) (next : b.next = s.bus.next)
    (same : ∀ x, (f x).id = x.id ∧ (f x).time = x.time ∧ (f x).owner = x.owner) : a.Keeps { s with bus := b } := by
  refine h.trans { tags := fun k => ?_, clips := fun _ k => ⟨?_, k.2⟩ }
  · obtain ⟨room, entries, entryTags, nodup, txnTags⟩ := k
    have ids : b.txns.map Txn.id = s.bus.txns.map Txn.id := by
      simp only [txns, List.map_map]
      exact List.map_congr_left fun x _ => (same x).1
    refine ⟨room, entries, next ▸ entryTags, ids ▸ nodup, fun y hy => ?_⟩
    obtain ⟨x, hx, rfl⟩ := List.mem_map.1 (txns ▸ hy)
    rw [(same x).1, (same x).2.1]
    exact next ▸ txnTags x hx
  · refine State.oneVerifies_of_bus k.1 ?_ (fun y hy => ?_) next.ge
    · have owner (x : Txn) : (f x).owner = x.owner := (same x).2.2
      simp only [txns, List.filter_map, List.length_map, Function.comp_def, owner]
    · obtain ⟨x, hx, rfl⟩ := List.mem_map.1 (txns ▸ hy)
      exact .inl ⟨x, hx, (same x).1.symm, (same x).2.2.symm⟩

/-- Entries leave the in-flight list, or are given another treatment. -/
theorem setEntries (h : a.Keeps s) {l : List Entry} {u : List UpResponse}
    (k : (l.map Entry.id).Sublist (s.entries.map Entry.id)) : a.Keeps { s with entries := l, up := u } := by
  refine h.trans { tags := fun ⟨room, entries, entryTags, rest⟩ => ⟨?_, entries.sublist k, fun e he => ?_, rest⟩ }
  · have := k.length_le
    simp only [List.length_map] at this
    exact this.trans room
  · obtain ⟨e', he', id⟩ := List.mem_map.1 (k.subset (List.mem_map_of_mem he))
    exact id ▸ entryTags e' he'

theorem answer (h : a.Keeps s) {id : Nat} {r : UpResult} : a.Keeps (s.answer id r) := by
  rcases s.answer_cases id r with ⟨-, e⟩ | ⟨_, -, e⟩ <;> rw [e]
  · exact h
  · exact h.setEntries (List.filter_sublist.map _)

/-! ## Responses and records -/

theorem setDirBus (h : a.Keeps s) {d : DirectiveUnit} {b : Bus} (k : s.dir.inRings → d.inRings) (g : s.bus.Grows b) :
    a.Keeps { s with dir := d, bus := b } :=
  (h.setDir k).setBus g

theorem putResponse (h : a.Keeps s) {q k : Nat} {r : DirectiveResult} {d l : Nat} : a.Keeps (s.putResponse q k r d l) :=
  h.setDirBus (fun ⟨head, tail, responseHead, _⟩ => ⟨head, tail, responseHead, Nat.mod_lt _ (by decide)⟩) (.write .refl _ _ rfl)

theorem respond (h : a.Keeps s) {q k : Nat} {r : DirectiveResult} {d l : Nat} : a.Keeps (s.respond q k r d l) :=
  (h.setDir (d := { s.dir with owed := s.dir.owed - 1 }) fun k => k).putResponse

end State.Keeps

/-! ## The log's place in its region (R176 to R178) -/

theorem LogWriter.requestMark_grows (l : LogWriter) (bus : Bus) (b : ClosedBatch) : bus.Grows (l.requestMark bus b) := by
  unfold LogWriter.requestMark
  split
  · exact .write .refl _ _ rfl
  · exact .refl

/-- The close of a batch asks for its mark at most. -/
theorem LogWriter.close_grows (l : LogWriter) (bus : Bus) : bus.Grows (l.close bus).2 := by
  unfold LogWriter.close
  split
  · exact .refl
  · exact l.requestMark_grows bus _

/-- R178: the floor falls below the marks there are, and stays above the records. -/
theorem LogWriter.close_inPlace {l : LogWriter} (bus : Bus) (place : l.fo % 32 = 0) (below : l.fo ≤ l.floor) (size : l.floor ≤ l.size)
    (room : l.batch.isSome → l.fo + 16 ≤ l.floor) (marks : ∀ c ∈ l.closing, l.floor ≤ c.mark ∧ c.mark + 16 ≤ l.size) :
    (l.close bus).1.inPlace ∧ (l.close bus).1.batch = none := by
  rcases l.close_cases bus with ⟨none_, e⟩ | ⟨b, some_, e⟩ <;> rw [e]
  · exact ⟨⟨place, below, size, fun b hb => by simp [none_] at hb, marks⟩, none_⟩
  · have := room (by simp [some_])
    refine ⟨⟨place, ?_, ?_, fun b hb => (by simp at hb), fun c hc => ?_⟩, rfl⟩
    · dsimp only; omega
    · dsimp only; omega
    · rcases List.mem_append.1 hc with old | new
      · have := marks c old
        dsimp only; omega
      · cases List.mem_singleton.1 new
        dsimp only; omega

theorem LogWriter.close_inPlace_of {l : LogWriter} (bus : Bus) (h : l.inPlace) :
    (l.close bus).1.inPlace ∧ (l.close bus).1.batch = none := by
  obtain ⟨place, below, size, batch, marks⟩ := h
  refine LogWriter.close_inPlace bus place below size (fun some_ => ?_) marks
  obtain ⟨b, hb⟩ := Option.isSome_iff_exists.1 some_
  exact (batch b hb).2.1

/-- A record that is written asks for its own write and at most for a mark. -/
theorem LogWriter.append_grows (l : LogWriter) (bus : Bus) (house : Nat) (r : Record) : bus.Grows (l.append bus house r).2 := by
  have record (addr : Nat) (data : List Byte) (run first : Nat) : bus.Grows (bus.write addr data (.logRecord run first)) :=
    .write .refl _ _ rfl
  simp only [LogWriter.append]
  split
  · exact (record ..).trans (LogWriter.close_grows ..)
  · exact record ..

/-- R176, R177: a record that fits leaves room for the mark of its batch. -/
theorem LogWriter.append_inPlace {l : LogWriter} (bus : Bus) (house : Nat) (r : Record) (h : l.inPlace) (open_ : l.state = .open)
    (fits : l.fits = true) : (l.append bus house r).1.inPlace := by
  obtain ⟨place, below, size, batch, marks⟩ := h
  have room : l.fo + 32 + 16 ≤ l.floor := of_decide_eq_true fits
  have count : (l.openFor house).count ≤ 15 := by
    unfold LogWriter.openFor
    split
    · next b hb => exact (batch b hb).2.2.2
    · exact Nat.zero_le _
  simp only [LogWriter.append]
  split
  · refine And.left (LogWriter.close_inPlace _ ?_ ?_ size (fun _ => room) marks)
    · dsimp only; omega
    · dsimp only; omega
  · next full =>
    refine ⟨?_, ?_, size, fun b hb => ?_, marks⟩
    · dsimp only; omega
    · dsimp only; omega
    · cases hb
      exact ⟨open_, room, Nat.succ_pos _, by dsimp only; omega⟩

theorem LogWriter.take_grows (l : LogWriter) (bus : Bus) (house : Nat) (r : Record) : bus.Grows (l.take bus house r).2 := by
  unfold LogWriter.take
  split
  · split
    · exact l.append_grows bus house r
    · exact l.withhold.close_grows bus
  · exact .refl
  · exact .refl

theorem LogWriter.take_inPlace {l : LogWriter} (bus : Bus) (house : Nat) (r : Record) (h : l.inPlace) :
    (l.take bus house r).1.inPlace := by
  unfold LogWriter.take
  split
  · split
    · exact LogWriter.append_inPlace bus house r h ‹_› ‹_›
    · obtain ⟨⟨place, below, size, -, marks⟩, none_⟩ := LogWriter.close_inPlace_of (l := l.withhold) bus h
      exact ⟨place, below, size, fun b hb => absurd (none_.symm.trans hb) (by simp), marks⟩
  · exact h
  · exact h

namespace State.Keeps

variable {a s t : State}

theorem record (h : a.Keeps s) {r : Record} : a.Keeps (s.record r) := by
  unfold State.record
  dsimp only
  split
  · exact (h.setLog (LogWriter.take_inPlace _ _ _)).setBus (LogWriter.take_grows ..)
  · exact h

theorem closeBatch (h : a.Keeps s) : a.Keeps s.closeBatch :=
  (h.setLog fun k => (LogWriter.close_inPlace_of _ k).1).setBus (LogWriter.close_grows ..)

end State.Keeps

end Sys2Proof.Machine

namespace Sys2Proof.Machine

/-! ## Event ids of a channel (R89, R96, R103) -/

/-- An id that has left the queue and the output joins the recent ids. -/
theorem nodup_joinRecent {q q' v v' r : List Nat} {x : Nat} (h : (q ++ v ++ r).Nodup) (hq : q'.Sublist q) (hv : v'.Sublist v)
    (notQueued : x ∉ q') (notPlaying : x ∉ v') : (q' ++ v' ++ joinRecent 4 r x).Nodup := by
  obtain ⟨qv, recent, apart⟩ := List.nodup_append.1 h
  refine List.nodup_append.2 ⟨qv.sublist (hq.append hv), joinRecent_nodup 4 x recent, fun y hy z hz e => ?_⟩
  subst e
  rcases mem_of_mem_joinRecent hz with old | rfl
  · exact apart y ((hq.append hv).subset hy) y old rfl
  · exact (List.mem_append.1 hy).elim notQueued notPlaying

theorem map_event_eraseP (q : List AvailEvent) (event : Nat) :
    (q.eraseP fun x => x.event == event).map AvailEvent.event = (q.map AvailEvent.event).erase event := by
  rw [List.erase_eq_eraseP', List.eraseP_map]
  rfl

theorem Channel.eventsApart_iff (ch : Channel) : ch.eventsApart ↔ ch.queue.length ≤ 4 ∧ ch.recent.length ≤ 4 ∧
    (ch.queue.map AvailEvent.event ++ ch.avail.toList.map CurrentAvail.event ++ ch.recent).Nodup := Iff.rfl

/-- A channel after an event has left its queue for the recent ids (R103). -/
def Channel.retired (ch : Channel) (event : Nat) : Channel :=
  { ch with queue := ch.queue.eraseP fun x => x.event == event, recent := joinRecent 4 ch.recent event }

theorem Channel.retired_eventsApart {ch : Channel} {event : Nat} (queued : event ∈ ch.queue.map AvailEvent.event)
    (h : ch.eventsApart) : (ch.retired event).eventsApart := by
  obtain ⟨length, -, nodup⟩ := h
  obtain ⟨queueAvail, -, -⟩ := List.nodup_append.1 nodup
  obtain ⟨queue, -, apart⟩ := List.nodup_append.1 queueAvail
  refine ⟨List.eraseP_sublist.length_le.trans length, joinRecent_length_le .., ?_⟩
  refine nodup_joinRecent nodup (List.eraseP_sublist.map _) (List.Sublist.refl _) ?_ fun playing => ?_
  · rw [Channel.retired, map_event_eraseP]
    exact queue.not_mem_erase
  · exact apart event queued event playing rfl

theorem Channel.forgetAvail_eventsApart {ch : Channel} {av : CurrentAvail} (playing : ch.avail = some av) (h : ch.eventsApart) :
    (ch.forgetAvail av.event).eventsApart := by
  obtain ⟨length, -, nodup⟩ := h
  obtain ⟨queueAvail, -, -⟩ := List.nodup_append.1 nodup
  obtain ⟨-, -, apart⟩ := List.nodup_append.1 queueAvail
  refine ⟨length, joinRecent_length_le .., nodup_joinRecent nodup (List.Sublist.refl _) (List.nil_sublist _) ?_ (by simp [Channel.forgetAvail])⟩
  exact fun queued => apart _ queued av.event (by simp [playing]) rfl

/-- The retirement of an event, with its change of the channel made before the record. -/
theorem State.retire_eq (s : State) (c : Fin 32) (e : AvailEvent) (why : MissReason) (second : Nat) :
    s.retire c e why second =
      (s.mapChan c fun ch => ch.retired e.event).record ⟨.eventMissed, c, why.code, e.event, e.time.toNat, second⟩ := by
  rw [State.retire]
  exact congrArg (State.record · ⟨.eventMissed, c, why.code, e.event, e.time.toNat, second⟩)
    (s.mapChan_mapChan c (fun ch => { ch with queue := ch.queue.eraseP fun x => x.event == e.event })
      fun ch => { ch with recent := joinRecent 4 ch.recent e.event })

namespace State.Keeps

variable {a s : State} {c : Fin 32}

theorem retire (h : a.Keeps s) {e : AvailEvent} {why : MissReason} {second : Nat} (queued : e ∈ (s.chan c).queue) :
    a.Keeps (s.retire c e why second) := by
  rw [State.retire_eq]
  exact (h.mapChan (Channel.retired_eventsApart (List.mem_map_of_mem queued)) rfl fun _ => .inl).record

theorem endAvail (h : a.Keeps s) {why : AvailEndReason} {p : Pts} : a.Keeps (s.endAvail c why p) := by
  cases playing : (s.chan c).avail with
  | none => simpa only [State.endAvail, playing] using h
  | some av =>
    rw [State.endAvail_of_avail why p playing]
    exact h.record.mapChan (Channel.forgetAvail_eventsApart playing) rfl fun _ => .inl

theorem leaveClip (h : a.Keeps s) {why : ClipEndReason} : a.Keeps (s.leaveClip c why) := by
  unfold State.leaveClip
  split
  · exact h.record.quietClip
  · exact h

theorem abandon (h : a.Keeps s) {clipWhy : ClipEndReason} {why : AvailEndReason} : a.Keeps (s.abandon c clipWhy why) :=
  h.leaveClip.endAvail

theorem startClip (h : a.Keeps s) {n : Fin 64} {p : Pts} : a.Keeps (s.startClip c n p) :=
  h.quietClip.quietChan

theorem recordClipStart (h : a.Keeps s) {n : Fin 64} {p : Pts} : a.Keeps (s.recordClipStart c n p) :=
  h.record

theorem retireDue {n : Pts} {why : MissReason} {slack : Option Nat} (k : Nat) (h : a.Keeps s) :
    a.Keeps (State.retireDue c n why slack k s) := by
  induction k generalizing s with
  | zero => exact h
  | succ k ih =>
    unfold State.retireDue
    split
    · exact h
    · next e more queue =>
      split
      · exact ih (h.retire (by simp [queue]))
      · exact h

theorem retireAllDue (h : a.Keeps s) {n : Pts} {why : MissReason} : a.Keeps (s.retireAllDue c n why) := h.retireDue _

theorem overlapTest (h : a.Keeps s) {n : Pts} : a.Keeps (s.overlapTest c n) := h.retireDue _

theorem place_keys (ch : Channel) (f : Fin 6) (latest : Option (Stamp × Pts)) (anchor : Anchor) :
    (ch.place f latest anchor).keys = ch.keys := by
  unfold Channel.place
  split <;> rfl

theorem placeCursor (h : a.Keeps s) {f : Fin 6} {anchor : Anchor} : a.Keeps (s.placeCursor c f anchor) :=
  h.quietChan (place_keys ..)

theorem recordWindowStart (h : a.Keeps s) {id : Fin 48} {p w : WindowStartReason} : a.Keeps (s.recordWindowStart c id p w) := by
  unfold State.recordWindowStart
  dsimp only
  split
  · exact h.record
  · exact h.record

/-! ## Windows (R120, R121) -/

/-- A window record changes but for its channel. -/
theorem setWindow (h : a.Keeps s) {id : Fin 48} {w w' : Window} (held : s.window id = some w) (same : w'.channel = w.channel) :
    a.Keeps (s.setWindow id (some w')) := by
  have channel (k : Fin 48) (c : Fin 32) : (∃ x, (s.setWindow id (some w')).window k = some x ∧ x.channel = c) ↔
      ∃ x, s.window k = some x ∧ x.channel = c := by
    by_cases e : k = id
    · subst e
      simp [held, same]
    · rw [State.window_setWindow_ne _ _ e]
  exact h.trans { windows := fun x d => (x d).imp_right fun y => ⟨fun k => (y.1 k).trans (channel k d).symm, y.2⟩ }

/-- The window goes out of the table and out of its channel's list. -/
theorem forgetWindow (h : a.Keeps s) {id : Fin 48} {w : Window} (held : s.window id = some w) :
    a.Keeps ((s.setWindow id none).mapChan w.channel fun ch => ch.forgetWindow id) := by
  refine h.trans { events := fun d x => ?_, windows := fun x d => ?_ }
  · by_cases e : d = w.channel
    · subst e
      rw [State.chan_mapChan_self]
      exact x
    · rwa [State.chan_mapChan_ne _ _ e]
  · obtain ⟨nodup, named, current⟩ := x d
    have others (k : Fin 48) (y : Window) : (s.setWindow id none).window k = some y ↔ k ≠ id ∧ s.window k = some y := by
      by_cases e : k = id
      · subst e
        simp
      · rw [State.window_setWindow_ne _ _ e]
        simp [e]
    simp only [State.window_mapChan, others]
    by_cases e : d = w.channel
    · subst e
      rw [State.chan_mapChan_self, State.chan_setWindow]
      refine ⟨nodup.filter _, fun k => ?_, fun k hk => ?_⟩
      · simp only [Channel.forgetWindow, List.mem_filter, decide_eq_true_eq, named k]
        tauto
      · simp only [Channel.forgetWindow] at hk
        split at hk
        · cases hk
        · next other =>
          exact List.mem_filter.2 ⟨current k hk, decide_eq_true fun e => other (e ▸ hk)⟩
    · rw [State.chan_mapChan_ne _ _ e, State.chan_setWindow]
      refine ⟨nodup, fun k => (named k).trans ⟨?_, ?_⟩, current⟩
      · rintro ⟨y, hy, rfl⟩
        refine ⟨y, ⟨?_, hy⟩, rfl⟩
        rintro rfl
        exact e (congrArg Window.channel (Option.some.inj (hy.symm.trans held)))
      · rintro ⟨y, ⟨-, hy⟩, hc⟩
        exact ⟨y, hy, hc⟩

theorem removeWindow (h : a.Keeps s) {id : Fin 48} {w : Window} {why : WindowEndReason} (held : s.window id = some w) :
    a.Keeps (s.removeWindow id w why) := by
  rw [State.removeWindow_eq]
  exact h.record.forgetWindow held

theorem showWindow (h : a.Keeps s) {id : Fin 48} {w : Window} {anchor : Anchor} (held : s.window id = some w) :
    a.Keeps (s.showWindow id w anchor) := by
  refine placeCursor (mapChan (h.setWindow (w' := { w with state := .active }) held rfl)
    (f := fun ch => { ch with window := some id, state := .subst }) (fun x => x) rfl fun k hk => .inr ?_)
  cases hk
  exact ⟨_, State.window_setWindow_self .., rfl⟩

/-- A new window takes an empty record and joins the list of its channel. -/
theorem addWindow (h : a.Keeps s) {id : Fin 48} {w : Window} (empty : s.window id = none) : a.Keeps (s.addWindow id w) := by
  obtain ⟨front, back, splits, -, -, e⟩ := s.addWindow_splits id w
  rw [e]
  refine h.trans { events := fun d x => ?_, windows := fun x d => ?_ }
  · by_cases other : d = w.channel
    · subst other
      rw [State.chan_mapChan_self]
      exact x
    · rwa [State.chan_mapChan_ne _ _ other]
  · obtain ⟨nodup, named, current⟩ := x d
    have fresh : id ∉ (s.chan d).windows := fun mem => by
      obtain ⟨y, hy, -⟩ := (named id).1 mem
      simp [empty] at hy
    by_cases other : d = w.channel
    · subst other
      rw [State.chan_mapChan_self, State.chan_setWindow]
      have perm : (front ++ id :: back).Perm (id :: (s.chan w.channel).windows) := splits ▸ List.perm_middle
      refine ⟨perm.nodup_iff.2 (List.nodup_cons.2 ⟨fresh, nodup⟩), fun k => ?_, fun k hk => perm.mem_iff.2 (.tail _ (current k hk))⟩
      rw [State.window_mapChan, perm.mem_iff, List.mem_cons, named k]
      by_cases ek : k = id
      · subst ek
        simp
      · simp [ek, State.window_setWindow_ne]
    · rw [State.chan_mapChan_ne _ _ other, State.chan_setWindow]
      refine ⟨nodup, fun k => (named k).trans ?_, current⟩
      rw [State.window_mapChan]
      by_cases ek : k = id
      · subst ek
        simp [empty, Ne.symm other]
      · rw [State.window_setWindow_ne _ _ ek]

end State.Keeps
end Sys2Proof.Machine

namespace Sys2Proof.Machine

theorem Channel.emit_keys (ch : Channel) (r : Role) (cell : List Byte) : (ch.emit r cell).1.keys = ch.keys := rfl

theorem Channel.emitSource_keys {ch ch' : Channel} {role : Option Role} {cell network out : List Byte}
    (h : ch.emitSource role cell network = some (ch', out)) : ch'.keys = ch.keys := by
  unfold Channel.emitSource at h
  split at h
  · cases h
  · split at h
    · cases h
    · split at h
      · cases h
      · cases h
        rfl

theorem mem_insertEvent (e x : AvailEvent) (q : List AvailEvent) : x ∈ insertEvent e q ↔ x = e ∨ x ∈ q := by
  induction q with
  | nil => simp [insertEvent]
  | cons y q ih =>
    unfold insertEvent
    split
    · simp
    · simp only [List.mem_cons, ih]
      tauto

theorem insertEvent_perm (e : AvailEvent) (q : List AvailEvent) : (insertEvent e q).Perm (e :: q) := by
  induction q with
  | nil => exact .refl _
  | cons y q ih =>
    unfold insertEvent
    split
    · exact .refl _
    · exact (ih.cons y).trans (.swap ..)

theorem lostEvent_mem (p : FullPolicy) (e : AvailEvent) (q : List AvailEvent) : lostEvent p e (insertEvent e q) ∈ insertEvent e q := by
  cases p with
  | keep => exact (mem_insertEvent ..).2 (.inl rfl)
  | earliest =>
    have nonempty : insertEvent e q ≠ [] := List.ne_nil_of_mem ((mem_insertEvent e e q).2 (.inl rfl))
    simp [lostEvent, List.getLastD_eq_getLast?, List.getLast?_eq_some_getLast nonempty]

namespace State.Keeps

variable {a s : State} {c : Fin 32}

/-! ## The checks of an entry cell (R46, R47) -/

theorem spliceOut (h : a.Keeps s) {e : AvailEvent} {n : Pts} {more : List AvailEvent} (head : (s.chan c).queue = e :: more) :
    a.Keeps (s.spliceOut c e n) := by
  refine recordClipStart (record (startClip (mapChan h (fun ⟨length, recent, nodup⟩ => ?_) rfl fun _ => .inl)))
  rw [head] at length nodup ⊢
  refine ⟨(Nat.le_succ _).trans length, recent, ?_⟩
  obtain ⟨queueAvail, recentNodup, apart⟩ := List.nodup_append.1 nodup
  obtain ⟨queue, -, -⟩ := List.nodup_append.1 queueAvail
  have perm : (more.map AvailEvent.event ++ [e.event]).Perm ((e :: more).map AvailEvent.event) := List.perm_append_comm
  refine List.nodup_append.2 ⟨perm.nodup_iff.2 queue, recentNodup, fun x hx => apart x ?_⟩
  exact List.mem_append_left _ (perm.mem_iff.1 hx)

theorem availTestLoop {n : Pts} (k : Nat) (h : a.Keeps s) : a.Keeps (State.availTestLoop c n k s) := by
  induction k generalizing s with
  | zero => exact h
  | succ k ih =>
    unfold State.availTestLoop
    split
    · exact h
    · next e more queue =>
      have head : e ∈ (s.chan c).queue := by simp [queue]
      split
      · exact h
      split
      · exact ih (h.retire head)
      split
      · exact ih (h.retire head)
      split
      · exact ih (h.retire head)
      · exact (h.spliceOut queue).overlapTest

theorem availTestInNetwork (h : a.Keeps s) {n : Pts} : a.Keeps (s.availTestInNetwork c n) := by
  unfold State.availTestInNetwork
  split
  · exact h.availTestLoop _
  · exact h

theorem windowTestLoop {n : Pts} (k : Nat) (h : a.Keeps s) : a.Keeps (State.windowTestLoop c n k s) := by
  induction k generalizing s with
  | zero => exact h
  | succ k ih =>
    unfold State.windowTestLoop
    split
    · exact h
    split
    · exact h
    · next w held =>
      split
      · exact ih (h.removeWindow held)
      split
      · exact (h.showWindow held).recordWindowStart.retireAllDue
      · exact h

theorem networkChecks (h : a.Keeps s) {n : Pts} : a.Keeps (s.networkChecks c n) := (h.windowTestLoop _).availTestInNetwork

theorem returnToNetwork (h : a.Keeps s) : a.Keeps (s.returnToNetwork c) := h.quietChan

theorem insertChecks (h : a.Keeps s) {n : Pts} : a.Keeps (s.insertChecks c n) := by
  unfold State.insertChecks
  split
  · exact h
  split
  · exact h.leaveClip.endAvail.returnToNetwork.networkChecks
  · exact h.overlapTest

theorem substChecks (h : a.Keeps s) {n : Pts} : a.Keeps (s.substChecks c n) := by
  unfold State.substChecks
  split
  · exact h
  split
  · exact h
  split
  · exact (h.removeWindow ‹_›).returnToNetwork.availTestInNetwork
  · exact h.retireAllDue

theorem alertChecks (h : a.Keeps s) {n : Pts} : a.Keeps (s.alertChecks c n) := by
  unfold State.alertChecks
  dsimp only
  split
  · exact h.retireAllDue
  split
  · exact h.retireAllDue
  split
  · exact h.retireAllDue.removeWindow ‹_›
  · exact h.retireAllDue

theorem entryChecks (h : a.Keeps s) {n : Pts} : a.Keeps (s.entryChecks c n) := by
  unfold State.entryChecks
  split
  · exact h
  · exact h.networkChecks
  · exact h.insertChecks
  · exact h.substChecks
  · exact h.alertChecks
  · exact h.returnToNetwork.networkChecks

/-! ## Output reads (sections 3.3 and 3.4) -/

theorem answerCell (h : a.Keeps s) {entry : Nat} {cell : List Byte} : a.Keeps (s.answerCell entry cell) := h.answer

theorem answerNull (h : a.Keeps s) {entry : Nat} {cell : List Byte} : a.Keeps (s.answerNull c entry cell) := h.quietChan.answer

theorem emitNetwork (h : a.Keeps s) {entry : Nat} {cell : List Byte} : a.Keeps (s.emitNetwork c entry cell) := by
  unfold State.emitNetwork
  dsimp only
  split
  · split
    · exact (h.quietChan (Channel.emit_keys ..)).answerCell
    · exact h.answerCell
  · exact h.answerCell

theorem requestSource (h : a.Keeps s) {entry : Nat} {cell : List Byte} {addr : Nat} {kind : SourceKind} {src : Source} :
    a.Keeps (s.requestSource c entry cell addr kind src) := by
  unfold State.requestSource
  exact (h.setBus (.read .refl 1 addr 192 (owner := .sourceRead c kind) rfl)).quietChan

theorem requestClip (h : a.Keeps s) {entry : Nat} {cell : List Byte} {n : Fin 64} {i : Nat} :
    a.Keeps (s.requestClip c entry cell n i) := h.requestSource

theorem requestFeed (h : a.Keeps s) {entry : Nat} {cell : List Byte} {f : Fin 6} {x : Stamp} :
    a.Keeps (s.requestFeed c entry cell f x) := h.requestSource

theorem supplyPlaced (h : a.Keeps s) {entry : Nat} {cell : List Byte} {f : Fin 6} : a.Keeps (s.supplyPlaced c entry cell f) := by
  unfold State.supplyPlaced
  split
  · exact h.requestFeed
  · exact h.answerNull

theorem slip (h : a.Keeps s) {f : Fin 6} {lap : Nat} : a.Keeps (s.slip c f lap) := h.quietChan.placeCursor.record

theorem supplyFeed (h : a.Keeps s) {entry : Nat} {cell : List Byte} {f : Fin 6} {cursor : Option Stamp} :
    a.Keeps (s.supplyFeed c entry cell f cursor) := by
  unfold State.supplyFeed
  dsimp only
  split
  · split
    · exact h.placeCursor.supplyPlaced
    · exact h.answerNull
  split
  · exact h.quietChan.answerNull
  split
  · exact h.slip.supplyPlaced
  · exact h.requestFeed

theorem returnWaitRead (h : a.Keeps s) {entry : Nat} {cell : List Byte} : a.Keeps (s.returnWaitRead c entry cell) := by
  unfold State.returnWaitRead
  dsimp only
  split
  · exact h.quietChan.answerNull
  · exact h.returnToNetwork.record.emitNetwork

theorem supply (h : a.Keeps s) {entry : Nat} {cell : List Byte} : a.Keeps (s.supply c entry cell) := by
  unfold State.supply
  split
  · exact h.emitNetwork
  · exact h.requestClip
  · exact h.supplyFeed
  split
  · exact h.returnWaitRead
  · exact h.answerNull

theorem podEnd (h : a.Keeps s) {av : CurrentAvail} {entry : Nat} {cell : List Byte} {at? : Option Pts} :
    a.Keeps (s.podEnd c av entry cell at?) := by
  unfold State.podEnd
  dsimp only
  split
  · exact h.endAvail.quietChan.returnToNetwork.networkChecks.supply
  · exact h.endAvail.quietChan.returnWaitRead

theorem leaveClip_chan (s : State) (c d : Fin 32) (why : ClipEndReason) : (s.leaveClip c why).chan d = s.chan d := by
  unfold State.leaveClip
  split <;> rfl

theorem clipExhausted (h : a.Keeps s) {entry : Nat} {cell : List Byte} {at? : Option Pts} :
    a.Keeps (s.clipExhausted c entry cell at?) := by
  unfold State.clipExhausted
  dsimp only
  split
  · exact h.leaveClip.answerNull
  · next av playing =>
    split
    · refine requestClip (recordClipStart (startClip (h.leaveClip.quietChan ?_)))
      rw [leaveClip_chan]
      simp [Channel.keys, playing]
    · exact h.leaveClip.podEnd

theorem produce (h : a.Keeps s) {entry : Nat} {cell : List Byte} {at? : Option Pts} : a.Keeps (s.produce c entry cell at?) := by
  unfold State.produce
  split
  · split
    · exact h.clipExhausted
    · exact h.supply
  · exact h.supply

theorem takeCell (h : a.Keeps s) {entry : Nat} {cell : List Byte} : a.Keeps (s.takeCell c entry cell) := by
  have counted : a.Keeps (if wellFormed cell then s
      else s.mapChan c fun ch => { ch with counts := { ch.counts with malformed := sat ch.counts.malformed } }) := by
    split
    · exact h
    · exact h.quietChan
  unfold State.takeCell
  dsimp only
  split
  · exact counted.produce
  · exact counted.quietChan.entryChecks.produce

theorem takeRead (h : a.Keeps s) : a.Keeps (s.takeRead c) := by
  unfold State.takeRead
  split
  · dsimp only
    split
    · exact h.quietChan.answer
    split
    · exact h.quietChan.takeCell
    · exact h.quietChan.answerCell
  · exact h

theorem answerSource (h : a.Keeps s) {r : ReadInHand} {role : Option Role} {cell : List Byte} :
    a.Keeps (s.answerSource c r role cell) := by
  unfold State.answerSource
  split
  · next out e => exact (h.quietChan (Channel.emitSource_keys e)).answerCell
  · exact h.answerNull

theorem clipCell (h : a.Keeps s) {n : Fin 64} {r : ReadInHand} {x : Answer} : a.Keeps (s.clipCell c n r x) := by
  unfold State.clipCell
  dsimp only
  split
  · exact h.quietChan.answerNull
  split
  · exact h.quietChan.answerNull.abandon.quietChan
  · exact h.quietChan.answerSource

theorem feedCell (h : a.Keeps s) {f : Fin 6} {r : ReadInHand} {x : Answer} : a.Keeps (s.feedCell c f r x) := by
  unfold State.feedCell
  dsimp only
  split
  · exact h.quietChan.answerNull
  split
  · exact h.quietChan.quietChan.answerNull
  · exact h.quietChan.answerSource

end State.Keeps
end Sys2Proof.Machine

namespace Sys2Proof.Machine

/-- The state after an event is queued in a full queue, the changes of the channel made before the record (R93). -/
theorem State.enqueue_lost_eq (s : State) (c : Fin 32) (q : List AvailEvent) (r : Record) (event : Nat) :
    (((s.mapChan c fun ch => { ch with queue := q }).record r).mapChan c fun ch =>
      { ch with recent := joinRecent 4 ch.recent event }) =
    (s.mapChan c fun ch => { ch with queue := q, recent := joinRecent 4 ch.recent event }).record r :=
  congrArg (State.record · r) (s.mapChan_mapChan c (fun ch => { ch with queue := q })
    fun ch => { ch with recent := joinRecent 4 ch.recent event })

theorem Channel.not_mem_queue_iff (ch : Channel) (event : Nat) : ch.queued event = false ↔ event ∉ ch.queue.map AvailEvent.event := by
  simp [Channel.queued]

theorem Channel.not_playing_iff (ch : Channel) (event : Nat) :
    ch.playing event = false ↔ event ∉ ch.avail.toList.map CurrentAvail.event := by
  cases h : ch.avail <;> simp [Channel.playing, h, @eq_comm _ event]

/-- A new event id joins those of the channel. -/
theorem nodup_insertEvent {e : AvailEvent} {q : List AvailEvent} {v r : List Nat}
    (h : (q.map AvailEvent.event ++ v ++ r).Nodup) (fresh : e.event ∉ q.map AvailEvent.event ++ v ++ r) :
    ((insertEvent e q).map AvailEvent.event ++ v ++ r).Nodup := by
  have perm : ((insertEvent e q).map AvailEvent.event ++ v ++ r).Perm (e.event :: (q.map AvailEvent.event ++ v ++ r)) :=
    (((insertEvent_perm e q).map AvailEvent.event).append_right v).append_right r
  exact perm.nodup_iff.2 (List.nodup_cons.2 ⟨fresh, h⟩)

/-- A slot of a binding table after one slot is set. -/
theorem bindingTable_set {t : Vector (Option Binding) 8} {i l : Fin 8} {x : Option Binding} {z : Binding}
    (h : (t.set i x)[l] = some z) : (l = i ∧ x = some z) ∨ (l ≠ i ∧ t[l] = some z) := by
  by_cases e : i.val = l.val
  · exact .inl ⟨Fin.ext e.symm, by simpa [e] using h⟩
  · exact .inr ⟨fun k => e (congrArg Fin.val k.symm), by simpa [e] using h⟩

namespace State.Keeps

variable {a s : State} {c : Fin 32}

/-! ## Cues (chapter 5) -/

theorem enqueue (h : a.Keeps s) {e : AvailEvent} (fresh : e.event ∉ (s.chan c).queue.map AvailEvent.event ++
    (s.chan c).avail.toList.map CurrentAvail.event ++ (s.chan c).recent) : a.Keeps (s.enqueue c e) := by
  unfold State.enqueue
  dsimp only
  split
  · next short =>
    exact h.mapChan (fun ⟨_, recent, nodup⟩ => ⟨short, recent, nodup_insertEvent nodup fresh⟩) rfl fun _ => .inl
  · rw [State.enqueue_lost_eq]
    refine record (h.mapChan (fun ⟨length, _, nodup⟩ => ?_) rfl fun _ => .inl)
    have lost := lostEvent_mem (s.chan c).config.policy e (s.chan c).queue
    have all := nodup_insertEvent nodup fresh
    obtain ⟨queueAvail, -, -⟩ := List.nodup_append.1 all
    obtain ⟨queue, -, apart⟩ := List.nodup_append.1 queueAvail
    refine ⟨?_, joinRecent_length_le .., nodup_joinRecent all (List.eraseP_sublist.map _) (List.Sublist.refl _) ?_ ?_⟩
    · have := (insertEvent_perm e (s.chan c).queue).length_eq
      simp only [List.length_cons] at this
      dsimp only
      rw [List.length_eraseP_of_mem lost (by simp)]
      omega
    · rw [map_event_eraseP]
      exact queue.not_mem_erase
    · exact fun playing => apart _ (List.mem_map_of_mem lost) _ playing rfl

theorem setBindings (h : a.Keeps s) {t : Vector (Option Binding) 8} (k : ∀ (i j : Fin 8) (x y : Binding), s.keysApart →
    t[i] = some x → t[j] = some y → x.key = y.key → i = j) : a.Keeps (s.setBindings c t) := by
  refine h.trans { keys := fun apart d i j x y hi hj => ?_ }
  by_cases e : d = c
  · subst e
    rw [State.bindingTable_setBindings_self] at hi hj
    exact k i j x y apart hi hj
  · have other : (s.setBindings c t).bindingTable d = s.bindingTable d := by
      have : ¬ c.val = d.val := fun h => e (Fin.ext h.symm)
      simp [State.bindingTable, this]
    rw [other] at hi hj
    exact apart d i j x y hi hj

theorem countDuplicate (h : a.Keeps s) : a.Keeps (s.countDuplicate c) := h.quietChan

theorem countBadCue (h : a.Keeps s) : a.Keeps (s.countBadCue c) := h.quietChan

/-- A binding from which a use is taken keeps its key. -/
theorem useOne_key {b b' : Binding} (h : b.useOne = some b') : b'.key = b.key := by
  unfold Binding.useOne at h
  split at h
  · cases h
    rfl
  split at h
  · cases h
  · cases h
    rfl

theorem useBinding (h : a.Keeps s) {i : Fin 8} {b : Binding} (bound : (s.bindingTable c)[i] = some b) :
    a.Keeps (s.setBindings c ((s.bindingTable c).set i b.useOne)) := by
  have old {k : Fin 8} {x : Binding} (hk : ((s.bindingTable c).set i b.useOne)[k] = some x) :
      ∃ x', (s.bindingTable c)[k] = some x' ∧ x.key = x'.key := by
    rcases bindingTable_set hk with ⟨rfl, used⟩ | ⟨-, same⟩
    · exact ⟨b, bound, useOne_key used⟩
    · exact ⟨x, same, rfl⟩
  refine h.setBindings fun j k x y apart hj hk same => ?_
  obtain ⟨x', hx, ex⟩ := old hj
  obtain ⟨y', hy, ey⟩ := old hk
  exact apart c j k x' y' hx hy (ex.symm.trans (same.trans ey))

theorem outCue (h : a.Keeps s) {cue : Cue} {t : Pts} : a.Keeps (s.outCue c cue t) := by
  unfold State.outCue
  dsimp only
  split
  · exact h.countDuplicate
  · next known =>
    simp only [Bool.or_eq_true, not_or, Bool.not_eq_true, List.contains_eq_mem, decide_eq_false_iff_not] at known
    obtain ⟨⟨notQueued, notPlaying⟩, notRecent⟩ := known
    split
    · exact h.record
    split
    · exact h
    · next i _ b bound =>
      refine (h.useBinding bound).enqueue ?_
      exact List.not_mem_append (List.not_mem_append ((Channel.not_mem_queue_iff ..).1 notQueued)
        ((Channel.not_playing_iff ..).1 notPlaying)) notRecent

theorem unmatchedCue (h : a.Keeps s) {event : Nat} : a.Keeps (s.unmatchedCue c event) := by
  unfold State.unmatchedCue
  split
  · exact h.countDuplicate
  · exact h.countBadCue

theorem setReturn_keys (ch : Channel) (t : Pts) : (ch.setReturn t).keys = ch.keys := by
  cases h : ch.avail <;> simp [Channel.keys, Channel.setReturn, h]

theorem setReturn (h : a.Keeps s) {t : Pts} : a.Keeps (s.mapChan c fun ch => ch.setReturn t) := h.quietChan (setReturn_keys ..)

theorem inCue (h : a.Keeps s) {cue : Cue} {t : Pts} : a.Keeps (s.inCue c cue t) := by
  unfold State.inCue
  dsimp only
  split
  · exact h.setReturn
  split
  · refine h.quietChan ?_
    simp only [Channel.keys, List.map_map, Prod.mk.injEq, and_true]
    refine List.map_congr_left fun e _ => ?_
    dsimp only [Function.comp_apply]
    split <;> rfl
  · exact h.unmatchedCue

theorem cancelCue (h : a.Keeps s) {cue : Cue} : a.Keeps (s.cancelCue c cue) := by
  unfold State.cancelCue
  dsimp only
  split
  · next e found => exact h.retire (List.mem_of_find?_eq_some found)
  split
  · split
    · exact h.setReturn
    · exact h.countBadCue
  · exact h.unmatchedCue

theorem takeCue (h : a.Keeps s) {cue : Cue} : a.Keeps (s.takeCue c cue) := by
  unfold State.takeCue
  split
  · exact h.cancelCue
  · split
    · exact h.outCue
    · exact h.countBadCue
  · split
    · exact h.inCue
    · exact h.countBadCue

theorem cueCell (h : a.Keeps s) {cell : List Byte} : a.Keeps (s.cueCell c cell) := by
  unfold State.cueCell
  split
  · exact h
  · exact h.countBadCue
  · exact h.takeCue

/-! ## Ring writes (section 2.3) -/

theorem clockSample (h : a.Keeps s) {total : Nat} {stamp : Stamp} : a.Keeps (s.clockSample c total stamp) := by
  unfold State.clockSample
  dsimp only
  split
  · exact h.quietChan.record
  split
  · exact h.quietChan.record
  · exact h.quietChan

theorem videoIngest (h : a.Keeps s) {cell : List Byte} : a.Keeps (s.videoIngest c cell) := by
  have kept : a.Keeps (match readPts cell with
      | some p => s.mapChan c fun ch => { ch with ingestPts := some p }
      | none => s) := by
    split
    · exact h.quietChan
    · exact h
  unfold State.videoIngest
  dsimp only
  split
  · exact kept.clockSample
  · exact kept

theorem takeChannelCell (h : a.Keeps s) {cell : List Byte} : a.Keeps (s.takeChannelCell c cell) := by
  unfold State.takeChannelCell
  split
  · exact h
  split
  · exact h.quietChan
  dsimp only
  split
  · split
    · exact h.videoIngest.cueCell
    · exact h.videoIngest
  · split
    · exact h.cueCell
    · exact h

theorem takeWholeCell (h : a.Keeps s) {x : WholeCell} : a.Keeps (s.takeWholeCell x) := by
  unfold State.takeWholeCell
  split
  · exact h.takeChannelCell
  · exact h.mapFeed

theorem reportRingWrite (h : a.Keeps s) {addr : Nat} {data : List Byte} {enables : List Bool} :
    a.Keeps (s.reportRingWrite addr data enables) := by
  unfold State.reportRingWrite
  split
  · exact h
  · exact foldl (fun _ _ => takeWholeCell refl) _ h

/-! ## Channels into ALERT and out of it (R129, R131, R159) -/

theorem suspendWindow (h : a.Keeps s) : a.Keeps (s.suspendWindow c) := by
  unfold State.suspendWindow
  split
  · exact h
  split
  · exact h
  · next w held => exact h.setWindow held rfl

theorem beforeAlert (h : a.Keeps s) : a.Keeps (s.beforeAlert c) := by
  unfold State.beforeAlert
  split
  · exact h.abandon
  · exact h.suspendWindow
  · exact h

theorem takeIntoAlert (h : a.Keeps s) {feed : Fin 2} : a.Keeps (s.takeIntoAlert c feed) := h.beforeAlert.quietChan.placeCursor

theorem leaveAlert (h : a.Keeps s) : a.Keeps (s.leaveAlert c) := by
  unfold State.leaveAlert
  split
  · exact h.quietChan
  split
  · exact h.quietChan
  · next w held => exact (h.showWindow held).recordWindowStart

theorem forEnabled (h : a.Keeps s) {set : ChannelMask} {f : State → Fin 32 → State} (k : ∀ (s : State) (c : Fin 32), s.Keeps (f s c)) :
    a.Keeps (s.forEnabled set f) := by
  refine foldl (fun s c => ?_) _ h
  split
  · exact k s c
  · exact refl

theorem handoverChannel (h : a.Keeps s) {old new : AlertContext} {set : ChannelMask} :
    a.Keeps (State.handoverChannel old new set s c) := by
  unfold State.handoverChannel
  split
  · exact h
  split
  · exact h.leaveAlert
  · split
    · exact h
    · exact h.placeCursor
  · exact h.takeIntoAlert
  · exact h

/-! ## CHANNEL_SET (section 3.2) -/

theorem enableChannel (h : a.Keeps s) {g : ChannelConfig} : a.Keeps (s.enableChannel c g) := by
  unfold State.enableChannel
  dsimp only
  split
  · split
    · exact h.quietChan.quietChan.placeCursor.record
    · exact h.quietChan
  · exact h.quietChan

theorem changeVideo (h : a.Keeps s) : a.Keeps (s.changeVideo c) := by
  unfold State.changeVideo
  dsimp only
  split
  · exact h.quietChan.record
  · exact h.quietChan

theorem reconfigure (h : a.Keeps s) {g : ChannelConfig} : a.Keeps (s.reconfigure c g) := by
  unfold State.reconfigure
  dsimp only
  split
  · exact h.quietChan
  · exact h.quietChan.changeVideo

theorem retireQueue (h : a.Keeps s) : a.Keeps (s.retireQueue c) := by
  unfold State.retireQueue
  generalize queue : (s.chan c).queue = q
  induction q generalizing s with
  | nil => exact h
  | cons e q ih =>
    refine ih (h.retire (by simp [queue])) ?_
    dsimp only
    rw [State.retire_eq, State.chan_record, State.chan_mapChan_self, Channel.retired, queue]
    simp

theorem removeWindows (h : a.Keeps s) : a.Keeps (s.removeWindows c) := by
  refine foldl (fun s id => ?_) _ h
  split
  · next w held => exact refl.removeWindow held
  · exact refl

end State.Keeps
end Sys2Proof.Machine

namespace Sys2Proof.Machine

/-! ## What the verification pass looks at -/

theorem State.verifying_eq_none_iff (s : State) : s.verifying = none ↔ ∀ n : Fin 64, (s.clip n).state ≠ .verifying := by
  simp [State.verifying]

theorem State.state_of_verifying {s : State} {n : Fin 64} (h : s.verifying = some n) : (s.clip n).state = .verifying := by
  simpa using List.find?_some h

/-- The clip store, the verify queue and the awaited read are as they were, and the arbiter's list has at most grown. -/
structure State.OnlyAsks (s t : State) : Prop where
  clips : t.clips = s.clips
  queue : t.verifyQueue = s.verifyQueue
  read : t.verifyRead = s.verifyRead
  bus : s.bus.Grows t.bus

theorem State.OnlyAsks.trans {s t u : State} (h : s.OnlyAsks t) (k : t.OnlyAsks u) : s.OnlyAsks u :=
  ⟨k.clips.trans h.clips, k.queue.trans h.queue, k.read.trans h.read, h.bus.trans k.bus⟩

theorem State.record_onlyAsks (s : State) (r : Record) : s.OnlyAsks (s.record r) := by
  refine ⟨rfl, rfl, rfl, ?_⟩
  rw [State.record_bus]
  split
  · exact LogWriter.take_grows ..
  · exact .refl

theorem State.respond_onlyAsks (s : State) (q k : Nat) (r : DirectiveResult) (d l : Nat) : s.OnlyAsks (s.respond q k r d l) :=
  ⟨rfl, rfl, rfl, .write .refl _ _ rfl⟩

theorem State.answerLoad_onlyAsks (s : State) (owed : Option Ticket) (r : DirectiveResult) (d : Nat) :
    s.OnlyAsks (s.answerLoad owed r d) := by
  unfold State.answerLoad
  split
  · exact State.respond_onlyAsks ..
  · exact ⟨rfl, rfl, rfl, .refl⟩

theorem State.OnlyAsks.clip {s t : State} (h : s.OnlyAsks t) (n : Fin 64) : t.clip n = s.clip n := by
  simp only [State.clip, h.clips]

theorem State.PassesInOrder.onlyAsks {s t : State} (k : s.PassesInOrder) (h : s.OnlyAsks t) : t.PassesInOrder := by
  obtain ⟨reads, known, next⟩ := h.bus.spec
  obtain ⟨one, nodup, queued, own, tag, atMost⟩ := k.of_bus (congrArg List.length reads).le known next
  constructor <;> simpa only [h.clip, h.queue, h.read]

theorem State.reading.onlyAsks {s t : State} (k : s.reading) (h : s.OnlyAsks t) : t.reading := by
  have := State.reading.of_bus k (congrArg List.length h.bus.spec.1)
  simpa only [State.reading, h.clip]

theorem State.clipsApart.onlyAsks {s t : State} (k : s.clipsApart) (h : s.OnlyAsks t) : t.clipsApart := by
  simpa only [State.clipsApart, h.clip]

/-- A clip that is freed, or keeps its range, stays off the other clips. -/
theorem State.clipsApart.mapClip {s : State} (h : s.clipsApart) {n : Fin 64} {f : Clip → Clip}
    (shrinks : (f (s.clip n)).state ≠ .free → (s.clip n).state ≠ .free ∧ (f (s.clip n)).has = (s.clip n).has) :
    (s.mapClip n f).clipsApart := by
  have part (k : Fin 64) (h : ((s.mapClip n f).clip k).state ≠ .free) :
      (s.clip k).state ≠ .free ∧ ((s.mapClip n f).clip k).has = (s.clip k).has := by
    by_cases e : k = n
    · subst e
      rw [State.clip_mapClip_self] at h ⊢
      exact shrinks h
    · rw [State.clip_mapClip_ne _ _ e] at h ⊢
      exact ⟨h, rfl⟩
  intro i k ne hi hk
  rw [(part i hi).2, (part k hk).2]
  exact h i k ne (part i hi).1 (part k hk).1

/-! ## The request of a pass, and its beginning (R66, R67) -/

theorem State.requestVerify_keepsOthers (s : State) (n : Fin 64) : s.KeepsOthers (s.requestVerify n) := by
  rcases s.requestVerify_cases n with ⟨-, e⟩ | ⟨-, e⟩ <;> rw [e]
  · exact {}
  · exact { tags := fun h => State.tagsApart_request h _ rfl (Nat.le_refl _) }

theorem State.requestVerify_clip (s : State) (n k : Fin 64) : (s.requestVerify n).clip k = s.clip k := by
  rcases s.requestVerify_cases n with ⟨-, e⟩ | ⟨-, e⟩ <;> rw [e]
  rfl

theorem State.requestVerify_queue (s : State) (n : Fin 64) : (s.requestVerify n).verifyQueue = s.verifyQueue := by
  rcases s.requestVerify_cases n with ⟨-, e⟩ | ⟨-, e⟩ <;> rw [e]

theorem State.PassesInOrder.requestVerify {s : State} (h : s.PassesInOrder) (tags : s.tagsApart) {n : Fin 64}
    (verifying : (s.clip n).state = .verifying) : (s.requestVerify n).PassesInOrder := by
  have atMost := s.requestVerify_one n h.atMost
  obtain ⟨-, -, -, -, txnTags⟩ := tags
  rcases s.requestVerify_cases n with ⟨-, e⟩ | ⟨-, e⟩
  · rwa [e]
  · rw [e] at atMost ⊢
    refine ⟨h.one, h.nodup, h.queued, fun x hx read => ?_, fun id read => ?_, atMost⟩
    · rcases List.mem_append.1 hx with old | new
      · exact absurd (Option.some.inj read) (txnTags x old).1.ne'
      · cases List.mem_singleton.1 new
        exact ⟨n, rfl, verifying⟩
    · cases read
      exact Nat.lt_succ_self _

/-- The read of a VERIFYING clip is asked for, and R66 and R67 hold. -/
theorem State.PassesInOrder.oneVerifies_requestVerify {s : State} (h : s.PassesInOrder) (tags : s.tagsApart) {n : Fin 64}
    (verifying : (s.clip n).state = .verifying) : (s.requestVerify n).oneVerifies := by
  refine (State.oneVerifies_iff _).2 ⟨h.requestVerify tags verifying, fun _ => ⟨n, ?_⟩, fun _ => ?_⟩
  · rwa [State.requestVerify_clip]
  · simpa [Bus.verifying] using s.requestVerify_verifying n

/-- The head of the verify queue is VERIFYING, and its read is not yet asked for. -/
def State.passBegun (s : State) (n : Fin 64) (rest : List (Fin 64)) : State :=
  ({ s with verifyQueue := rest } : State).mapClip n fun x => { x with state := .verifying, cursor := 0 }

theorem State.passBegun_self (s : State) (n : Fin 64) (rest : List (Fin 64)) :
    ((s.passBegun n rest).clip n).state = .verifying := by
  simp [State.passBegun]

theorem State.passBegun_other (s : State) {n k : Fin 64} (rest : List (Fin 64)) (ne : k ≠ n) :
    (s.passBegun n rest).clip k = s.clip k :=
  State.clip_mapClip_ne _ _ ne

/-- What the beginning of a pass can do (R66). -/
theorem State.beginPass_cases (s : State) :
    (s.beginPass = s ∧ (s.verifyQueue = [] ∨ ∃ n, (s.clip n).state = .verifying)) ∨
    ∃ n rest, s.verifyQueue = n :: rest ∧ (∀ k, (s.clip k).state ≠ .verifying) ∧ 
      s.beginPass = (s.passBegun n rest).requestVerify n := by
  unfold State.beginPass
  split
  · next n rest idle queue => exact .inr ⟨n, rest, queue, s.verifying_eq_none_iff.1 idle, rfl⟩
  · next other =>
    refine .inl ⟨rfl, ?_⟩
    cases queue : s.verifyQueue with
    | nil => exact .inl rfl
    | cons n rest =>
      cases idle : s.verifying with
      | none => exact absurd queue (other n rest idle)
      | some k => exact .inr ⟨k, State.state_of_verifying idle⟩

theorem State.beginPass_keepsOthers (s : State) : s.KeepsOthers s.beginPass := by
  rcases s.beginPass_cases with ⟨e, -⟩ | ⟨n, rest, -, -, e⟩ <;> rw [e]
  · exact {}
  · exact .trans {} (State.requestVerify_keepsOthers _ n)

theorem State.beginPass_clips {s : State} (tags : s.tagsApart) (order : s.PassesInOrder) (reading : s.reading) (apart : s.clipsApart) :
    s.beginPass.oneVerifies ∧ s.beginPass.clipsApart := by
  rcases s.beginPass_cases with ⟨e, waits⟩ | ⟨n, rest, queue, idle, e⟩ <;> rw [e]
  · exact ⟨(State.oneVerifies_iff _).2 ⟨order, fun nonempty => waits.resolve_left nonempty, reading⟩, apart⟩
  · obtain ⟨fresh, nodup⟩ := List.nodup_cons.1 (queue ▸ order.nodup)
    have queued : (s.clip n).state = .queued := (order.queued n).1 (queue ▸ List.mem_cons_self ..)
    have self := s.passBegun_self n rest
    have only {k : Fin 64} (v : ((s.passBegun n rest).clip k).state = .verifying) : k = n := by
      by_contra ne
      exact idle k (s.passBegun_other rest ne ▸ v)
    have inOrder : (s.passBegun n rest).PassesInOrder := by
      refine ⟨fun i k hi hk => (only hi).trans (only hk).symm, nodup, fun k => ?_, fun x hx read => ?_, order.tag, order.atMost⟩
      · by_cases ne : k = n
        · subst ne
          rw [self]
          exact ⟨fun mem => absurd mem fresh, fun e => nomatch e⟩
        · rw [s.passBegun_other rest ne, ← order.queued k, queue, List.mem_cons]
          exact ⟨.inr, fun h => h.resolve_left ne⟩
      · obtain ⟨k, -, v⟩ := order.own x hx read
        exact absurd v (idle k)
    refine ⟨inOrder.oneVerifies_requestVerify tags self, ?_⟩
    have kept : (s.passBegun n rest).clipsApart := State.clipsApart.mapClip (s := { s with verifyQueue := rest }) apart fun _ =>
      ⟨fun free => (nomatch queued.symm.trans free), rfl⟩
    simpa only [State.clipsApart, State.requestVerify_clip] using kept

end Sys2Proof.Machine

namespace Sys2Proof.Machine

/-! ## The cells of a pass keep the clip's place (R68 to R71) -/

/-- The clip as the examination leaves it. -/
def PassStep.clip : PassStep → Clip
  | .on x => x
  | .fail x _ _ => x
  | .pass x => x

/-- The clip's state and range are those of the clip before. -/
def Clip.SamePlace (x y : Clip) : Prop :=
  y.state = x.state ∧ y.base = x.base ∧ y.cells = x.cells

theorem Clip.laterPts_samePlace (x : Clip) (p0 p : Pts) : x.SamePlace (x.laterPts p0 p).clip := by
  simp only [Clip.laterPts]
  split
  · exact ⟨rfl, rfl, rfl⟩
  split
  · exact ⟨rfl, rfl, rfl⟩
  · simp only [PassStep.clip]
    split <;> exact ⟨rfl, rfl, rfl⟩

theorem Clip.examineVideo_samePlace (x : Clip) (cell : List Byte) : x.SamePlace (x.examineVideo cell).clip := by
  unfold Clip.examineVideo
  split
  · split <;> exact ⟨rfl, rfl, rfl⟩
  · split
    · exact x.laterPts_samePlace _ _
    · exact ⟨rfl, rfl, rfl⟩

theorem Clip.examine_samePlace (x : Clip) (cell : List Byte) : x.SamePlace (x.examine cell).clip := by
  unfold Clip.examine
  split
  · exact ⟨rfl, rfl, rfl⟩
  dsimp only
  split
  · have video := Clip.examineVideo_samePlace { x with crc := crc32Fold x.crc (slice cell 4 188) } cell
    split
    · next y e =>
      rw [e] at video
      exact video
    · exact video
  · exact ⟨rfl, rfl, rfl⟩

theorem Clip.finalChecks_samePlace (x : Clip) : x.SamePlace x.finalChecks.clip := by
  unfold Clip.finalChecks
  split
  · exact ⟨rfl, rfl, rfl⟩
  · exact ⟨rfl, rfl, rfl⟩
  · split
    · exact ⟨rfl, rfl, rfl⟩
    split <;> exact ⟨rfl, rfl, rfl⟩

theorem Clip.step_samePlace (x : Clip) (a : Answer) : x.SamePlace (x.step a).clip := by
  unfold Clip.step
  split
  · exact ⟨rfl, rfl, rfl⟩
  · next cell =>
    have examined := x.examine_samePlace cell
    split
    · next y e =>
      rw [e] at examined
      split
      · exact examined
      · obtain ⟨state, base, cells⟩ := y.finalChecks_samePlace
        obtain ⟨state', base', cells'⟩ := examined
        exact ⟨state.trans state', base.trans base', cells.trans cells'⟩
    · exact examined

theorem Clip.SamePlace.has {x y : Clip} (h : x.SamePlace y) : y.has = x.has := by
  unfold Clip.has
  rw [h.2.1, h.2.2]

/-! ## The end of a pass, of a load, and an accepted load (R65, R73, R75) -/

theorem State.answerLoad_keeps (s : State) (owed : Option Ticket) (r : DirectiveResult) (d : Nat) : s.Keeps (s.answerLoad owed r d) := by
  unfold State.answerLoad
  split
  · exact State.Keeps.refl.respond
  · exact .refl

theorem State.mapClip_keepsOthers (s : State) (n : Fin 64) (f : Clip → Clip) : s.KeepsOthers (s.mapClip n f) := {}

/-- A clip whose pass or load is over is neither VERIFYING nor QUEUED, and no read of it is awaited. -/
theorem State.PassesInOrder.mapClip {s : State} (h : s.PassesInOrder) {n : Fin 64} {f : Clip → Clip}
    (notVerifying : (f (s.clip n)).state ≠ .verifying) (notQueued : (f (s.clip n)).state ≠ .queued)
    (out : (s.clip n).state ≠ .queued) (free : s.verifyRead ≠ none → (s.clip n).state ≠ .verifying) :
    (s.mapClip n f).PassesInOrder := by
  have other {k : Fin 64} (v : ((s.mapClip n f).clip k).state = .verifying) : (s.clip k).state = .verifying := by
    by_cases e : k = n
    · subst e
      rw [State.clip_mapClip_self] at v
      exact absurd v notVerifying
    · rwa [State.clip_mapClip_ne _ _ e] at v
  refine ⟨fun i k hi hk => h.one i k (other hi) (other hk), h.nodup, fun k => ?_, fun x hx read => ?_, h.tag, h.atMost⟩
  · by_cases e : k = n
    · subst e
      rw [State.clip_mapClip_self]
      exact ⟨fun mem => absurd ((h.queued k).1 mem) out, fun q => absurd q notQueued⟩
    · rw [State.clip_mapClip_ne _ _ e]
      exact h.queued k
  · obtain ⟨k, owner, v⟩ := h.own x hx read
    refine ⟨k, owner, ?_⟩
    by_cases e : k = n
    · subst e
      exact absurd v (free (by rw [State.mapClip_verifyRead] at read; simp [read]))
    · rwa [State.clip_mapClip_ne _ _ e]

/-- With its VERIFYING clip out of the pass no clip is VERIFYING. -/
theorem State.PassesInOrder.idle_mapClip {s : State} (h : s.PassesInOrder) {n : Fin 64} {f : Clip → Clip}
    (verifying : (s.clip n).state = .verifying) (ended : (f (s.clip n)).state ≠ .verifying) : (s.mapClip n f).reading := by
  rintro ⟨k, v⟩
  by_cases e : k = n
  · subst e
    rw [State.clip_mapClip_self] at v
    exact absurd v ended
  · rw [State.clip_mapClip_ne _ _ e] at v
    exact absurd (h.one k n v verifying) e

/-- A pass of the VERIFYING clip `n`, whose read has completed, ends or goes on. -/
theorem State.endPass_clips {s : State} {n : Fin 64} {p : PassStep} (tags : s.tagsApart) (order : s.PassesInOrder) (apart : s.clipsApart)
    (verifying : (s.clip n).state = .verifying) (free : s.verifyRead = none) (place : (s.clip n).SamePlace p.clip) :
    (s.endPass n p).oneVerifies ∧ (s.endPass n p).clipsApart := by
  have next {f : Clip → Clip} {t : State} (state : (f (s.clip n)).state ≠ .verifying ∧ (f (s.clip n)).state ≠ .queued)
      (has : (f (s.clip n)).has = (s.clip n).has) (asks : (s.mapClip n f).OnlyAsks t) (kept : (s.mapClip n f).Keeps t) :
      t.beginPass.oneVerifies ∧ t.beginPass.clipsApart := by
    have out : (s.clip n).state ≠ .queued := fun q => nomatch verifying.symm.trans q
    refine State.beginPass_clips (kept.tags tags) ?_ ?_ ?_
    · exact (order.mapClip state.1 state.2 out fun some_ => absurd free some_).onlyAsks asks
    · exact (order.idle_mapClip verifying state.1).onlyAsks asks
    · refine (State.clipsApart.mapClip apart fun _ => ⟨fun free => ?_, has⟩).onlyAsks asks
      exact nomatch verifying.symm.trans free
  match p, place with
  | .on y, ⟨state, base, cells⟩ =>
    have kept : s.Keeps (s.mapClip n fun _ => y) := State.Keeps.refl.quietClip state base cells
    have self : ((s.mapClip n fun _ => y).clip n).state = .verifying := by
      rw [State.clip_mapClip_self]
      exact state.trans verifying
    have same (k : Fin 64) : ((s.mapClip n fun _ => y).clip k).state = (s.clip k).state := by
      by_cases e : k = n
      · subst e
        exact self.trans verifying.symm
      · rw [State.clip_mapClip_ne _ _ e]
    have inOrder : (s.mapClip n fun _ => y).PassesInOrder := by
      obtain ⟨one, nodup, queued, own, tag, atMost⟩ := order
      constructor <;> simpa only [same]
    refine ⟨inOrder.oneVerifies_requestVerify (kept.tags tags) self, ?_⟩
    have apart' : (s.mapClip n fun _ => y).clipsApart := State.clipsApart.mapClip apart fun _ =>
      ⟨fun free => (nomatch verifying.symm.trans free), Clip.SamePlace.has ⟨state, base, cells⟩⟩
    simpa only [State.clipsApart, State.endPass, State.requestVerify_clip] using apart'
  | .fail y why second, place =>
    exact next ⟨by simp [Clip.failWith], by simp [Clip.failWith]⟩ place.has
      ((State.record_onlyAsks _ _).trans (State.answerLoad_onlyAsks ..)) (State.Keeps.refl.record.trans (State.answerLoad_keeps ..))
  | .pass y, place =>
    exact next ⟨by simp, by simp⟩ place.has
      ((State.record_onlyAsks _ _).trans (State.answerLoad_onlyAsks ..)) (State.Keeps.refl.record.trans (State.answerLoad_keeps ..))

theorem State.endPass_keepsOthers (s : State) (n : Fin 64) (p : PassStep) : s.KeepsOthers (s.endPass n p) := by
  have next (f : Clip → Clip) (r : Record) (owed : Option Ticket) (d : DirectiveResult) (k : Nat) :
      s.KeepsOthers ((((s.mapClip n f).record r).answerLoad owed d k).beginPass) :=
    ((s.mapClip_keepsOthers n f).trans (State.Keeps.refl.record.trans (State.answerLoad_keeps ..)).toKeepsOthers).trans
      (State.beginPass_keepsOthers _)
  cases p with
  | on y => exact (s.mapClip_keepsOthers n _).trans (State.requestVerify_keepsOthers _ n)
  | fail y why second => exact next ..
  | pass y => exact next ..

/-- The clip of an accepted load stands last in the verify queue, before a pass may begin (R65). -/
def State.loaded (s : State) (n : Fin 64) (t : Ticket) (f : ClipLoadFields) (m : List (Nat × Role)) : State :=
  { s.mapClip n fun x => x.load f.base f.cells f.crc m t with verifyQueue := s.verifyQueue ++ [n] }

theorem State.acceptLoad_eq (s : State) (n : Fin 64) (t : Ticket) (f : ClipLoadFields) (m : List (Nat × Role)) :
    s.acceptLoad n t f m = (s.loaded n t f m).beginPass := rfl

section
variable {s : State} {n : Fin 64} {t : Ticket} {f : ClipLoadFields} {m : List (Nat × Role)}

theorem State.loaded_self : (s.loaded n t f m).clip n = (s.clip n).load f.base f.cells f.crc m t :=
  s.clip_mapClip_self n fun x => x.load f.base f.cells f.crc m t

theorem State.loaded_other {k : Fin 64} (ne : k ≠ n) : (s.loaded n t f m).clip k = s.clip k :=
  s.clip_mapClip_ne (fun x => x.load f.base f.cells f.crc m t) ne

theorem State.loaded_verifying (idle : (s.clip n).state ≠ .verifying) (k : Fin 64) :
    ((s.loaded n t f m).clip k).state = .verifying ↔ (s.clip k).state = .verifying := by
  by_cases e : k = n
  · subst e
    rw [State.loaded_self]
    exact ⟨fun v => (nomatch v), fun v => absurd v idle⟩
  · rw [State.loaded_other e]

theorem State.loaded_clipsApart (apart : s.clipsApart) (off : s.clipOverlap n f.base f.cells = false) :
    (s.loaded n t f m).clipsApart := by
  have clear {k : Fin 64} (ne : k ≠ n) (used : (s.clip k).state ≠ .free) (b : Nat) :
      ¬ (((s.clip n).load f.base f.cells f.crc m t).has b ∧ (s.clip k).has b) := by
    simp only [State.clipOverlap, List.any_eq_false, List.mem_finRange, true_implies, Bool.and_eq_true, bne_iff_ne, not_and,
      Bool.not_eq_true] at off
    have := off k ⟨ne, used⟩
    rw [← Bool.not_eq_true, rangesMeet_iff ⟨f.base, 192 * f.cells⟩ ⟨(s.clip k).base, 192 * (s.clip k).cells⟩] at this
    exact fun both => this ⟨b, both⟩
  intro i k ne hi hk b both
  by_cases ei : i = n
  · subst ei
    rw [State.loaded_self, State.loaded_other ne.symm] at both
    rw [State.loaded_other ne.symm] at hk
    exact clear ne.symm hk b both
  · rw [State.loaded_other ei] at hi both
    by_cases ek : k = n
    · subst ek
      rw [State.loaded_self] at both
      exact clear ne hi b both.symm
    · rw [State.loaded_other ek] at hk both
      exact apart i k ne hi hk b both

/-- R64 to R66: an accepted load lies off the other clips, and its clip waits in the queue or begins its pass. -/
theorem State.acceptLoad_clips (tags : s.tagsApart) (h : s.oneVerifies) (apart : s.clipsApart) (unguarded : (s.clip n).guarded = false)
    (off : s.clipOverlap n f.base f.cells = false) : (s.acceptLoad n t f m).oneVerifies ∧ (s.acceptLoad n t f m).clipsApart := by
  obtain ⟨order, -, reading⟩ := s.oneVerifies_iff.1 h
  simp only [Clip.guarded, Bool.or_eq_false_iff, beq_eq_false_iff_ne] at unguarded
  obtain ⟨⟨notQueued, notVerifying⟩, -⟩ := unguarded
  have verifying := State.loaded_verifying (t := t) (f := f) (m := m) notVerifying
  rw [State.acceptLoad_eq]
  refine State.beginPass_clips tags ⟨?_, ?_, fun k => ?_, ?_, order.tag, order.atMost⟩ ?_ (State.loaded_clipsApart apart off)
  · simpa only [verifying] using order.one
  · refine List.nodup_append.2 ⟨order.nodup, by simp, fun k hk x hx e => notQueued ?_⟩
    rw [← order.queued n, ← List.mem_singleton.1 hx, ← e]
    exact hk
  · show k ∈ s.verifyQueue ++ [n] ↔ _
    rw [List.mem_append, List.mem_singleton, order.queued k]
    by_cases e : k = n
    · subst e
      rw [State.loaded_self]
      exact ⟨fun _ => rfl, fun _ => .inr rfl⟩
    · rw [State.loaded_other e]
      exact ⟨fun q => q.resolve_right e, .inl⟩
  · exact fun x hx read => (order.own x hx read).imp fun k => .imp_right (verifying k).2
  · exact fun ⟨k, v⟩ => reading ⟨k, (verifying k).1 v⟩

theorem State.acceptLoad_keepsOthers : s.KeepsOthers (s.acceptLoad n t f m) :=
  .trans {} (State.beginPass_keepsOthers _)

end

/-! ## CLIP_FREE (R75, R76) -/

/-- The load of clip `n` has left the verify queue, and no read of its pass is awaited. -/
def State.unqueued (s : State) (n : Fin 64) : State :=
  { s with
    verifyQueue := s.verifyQueue.filter (· != n)
    verifyRead := if (s.clip n).state = ClipState.verifying then none else s.verifyRead }

theorem State.cancelLoad_eq (s : State) (n : Fin 64) (t : Ticket) : s.cancelLoad n t =
    (((((s.unqueued n).answerLoad (s.clip n).owed .cancelled 0).mapClip n fun _ => Clip.reset).respond t.seq 3 .done 0
      t.slot).beginPass) := rfl

theorem State.cancelLoad_keepsOthers (s : State) (n : Fin 64) (t : Ticket) : s.KeepsOthers (s.cancelLoad n t) := by
  rw [State.cancelLoad_eq]
  refine .trans (.trans (.trans (.trans {} (State.answerLoad_keeps (s.unqueued n) _ _ _).toKeepsOthers)
    (State.mapClip_keepsOthers _ n _)) State.Keeps.refl.respond.toKeepsOthers) (State.beginPass_keepsOthers _)

theorem State.clipsApart.free {s : State} (h : s.clipsApart) (n : Fin 64) : (s.mapClip n fun _ => Clip.reset).clipsApart :=
  h.mapClip fun used => absurd rfl used

/-- The clip of a cancelled load is FREE, before the next pass may begin (R75). -/
def State.cancelled (s : State) (n : Fin 64) : State :=
  (s.unqueued n).mapClip n fun _ => Clip.reset

section
variable {s : State} {n : Fin 64}

theorem State.cancelled_self : (s.cancelled n).clip n = Clip.reset := State.clip_mapClip_self ..

theorem State.cancelled_other {k : Fin 64} (ne : k ≠ n) : (s.cancelled n).clip k = s.clip k := State.clip_mapClip_ne _ _ ne

theorem State.cancelled_verifying {k : Fin 64} (v : ((s.cancelled n).clip k).state = .verifying) :
    k ≠ n ∧ (s.clip k).state = .verifying := by
  by_cases e : k = n
  · subst e
    rw [State.cancelled_self] at v
    exact nomatch v
  · rw [State.cancelled_other e] at v
    exact ⟨e, v⟩

/-- No read is awaited of a pass that is cancelled; another one is awaited as before. -/
theorem State.cancelled_read {id : Nat} (h : (s.cancelled n).verifyRead = some id) :
    (s.clip n).state ≠ .verifying ∧ s.verifyRead = some id := by
  by_cases v : (s.clip n).state = .verifying
  · rw [State.cancelled, State.mapClip_verifyRead, State.unqueued, if_pos v] at h
    cases h
  · rw [State.cancelled, State.mapClip_verifyRead, State.unqueued, if_neg v] at h
    exact ⟨v, h⟩

theorem State.PassesInOrder.cancelled (h : s.PassesInOrder) : (s.cancelled n).PassesInOrder where
  one i k hi hk := h.one i k (State.cancelled_verifying hi).2 (State.cancelled_verifying hk).2
  nodup := h.nodup.filter _
  queued k := by
    show k ∈ s.verifyQueue.filter (· != n) ↔ _
    rw [List.mem_filter, h.queued k, bne_iff_ne]
    by_cases e : k = n
    · subst e
      rw [State.cancelled_self]
      exact ⟨fun q => absurd rfl q.2, fun q => (nomatch q)⟩
    · rw [State.cancelled_other e]
      exact and_iff_left e
  own x hx read := by
    obtain ⟨idle, awaited⟩ := State.cancelled_read read
    obtain ⟨k, owner, v⟩ := h.own x hx awaited
    refine ⟨k, owner, ?_⟩
    have ne : k ≠ n := by
      rintro rfl
      exact idle v
    rwa [State.cancelled_other ne]
  tag id read := h.tag id (State.cancelled_read read).2
  atMost := h.atMost

end

theorem State.OnlyAsks.mapClip {s t : State} (h : s.OnlyAsks t) (n : Fin 64) (f : Clip → Clip) :
    (s.mapClip n f).OnlyAsks (t.mapClip n f) :=
  ⟨by simp [h.clips], h.queue, h.read, h.bus⟩

/-- R75: a cancelled load leaves the queue and the passes in order, and the next pass begins. -/
theorem State.cancelLoad_clips {s : State} {n : Fin 64} {t : Ticket} (tags : s.tagsApart) (h : s.oneVerifies) (apart : s.clipsApart) :
    (s.cancelLoad n t).oneVerifies ∧ (s.cancelLoad n t).clipsApart := by
  obtain ⟨order, -, reading⟩ := s.oneVerifies_iff.1 h
  have asks := ((State.answerLoad_onlyAsks (s.unqueued n) (s.clip n).owed .cancelled 0).mapClip n fun _ => Clip.reset).trans
    (State.respond_onlyAsks _ t.seq 3 .done 0 t.slot)
  have answered := (State.answerLoad_keeps (s.unqueued n) (s.clip n).owed .cancelled 0).tags tags
  have stillReading : (s.cancelled n).reading := fun ⟨k, v⟩ => reading ⟨k, (State.cancelled_verifying v).2⟩
  have stillApart : (s.cancelled n).clipsApart := State.clipsApart.free (s := s.unqueued n) apart n
  rw [State.cancelLoad_eq]
  exact State.beginPass_clips (State.Keeps.refl.respond.tags answered) (order.cancelled.onlyAsks asks) (stillReading.onlyAsks asks)
    (stillApart.onlyAsks asks)

/-- A clip that has no load under way is freed (R76). -/
theorem State.freeClip_clips {s : State} {n : Fin 64} (h : s.oneVerifies) (apart : s.clipsApart) (notQueued : (s.clip n).state ≠ .queued)
    (notVerifying : (s.clip n).state ≠ .verifying) :
    (s.mapClip n fun _ => Clip.reset).oneVerifies ∧ (s.mapClip n fun _ => Clip.reset).clipsApart := by
  obtain ⟨order, waits, reading⟩ := s.oneVerifies_iff.1 h
  have verifying (k : Fin 64) : ((s.mapClip n fun _ => Clip.reset).clip k).state = .verifying ↔ (s.clip k).state = .verifying := by
    by_cases e : k = n
    · subst e
      rw [State.clip_mapClip_self]
      exact ⟨fun v => (nomatch v), fun v => absurd v notVerifying⟩
    · rw [State.clip_mapClip_ne _ _ e]
  refine ⟨(State.oneVerifies_iff _).2 ⟨order.mapClip nofun nofun notQueued fun _ => notVerifying, ?_, ?_⟩, apart.free n⟩
  · exact fun some_ => (waits some_).imp fun k => (verifying k).2
  · exact fun ⟨k, v⟩ => reading ⟨k, (verifying k).1 v⟩

/-- A CLIP_LOAD that passes the tests of R64 finds its clip unguarded and its range off the other clips. -/
theorem State.clipLoadTest_ok {s : State} {n : Fin 64} {f : ClipLoadFields} {m : List (Nat × Role)} (h : s.clipLoadTest n f = .ok m) :
    (s.clip n).guarded = false ∧ s.clipOverlap n f.base f.cells = false := by
  simp only [State.clipLoadTest] at h
  split at h
  · cases h
  split at h
  · cases h
  split at h
  · cases h
  split at h
  · cases h
  split at h
  · cases h
  · exact ⟨Bool.eq_false_iff.2 ‹_›, Bool.eq_false_iff.2 ‹_›⟩

theorem State.completeTxn_keepsOthers (s : State) (id : Nat) : s.KeepsOthers (s.completeTxn id) :=
  { tags := fun h => State.tagsApart_withdraw h _ }

theorem State.PassesInOrder.completeTxn {s : State} (h : s.PassesInOrder) (id : Nat) : (s.completeTxn id).PassesInOrder :=
  h.of_bus (List.filter_sublist.filter _).length_le (fun x hx => .inl ⟨x, List.mem_of_mem_filter hx, rfl, rfl⟩) (Nat.le_refl _)

theorem State.PassesInOrder.forgetRead {s : State} (h : s.PassesInOrder) : ({ s with verifyRead := none } : State).PassesInOrder where
  one := h.one
  nodup := h.nodup
  queued := h.queued
  own _ _ read := nomatch read
  tag _ read := nomatch read
  atMost := h.atMost

/-- R67: the pass that waited asks for its read; no clip VERIFYING, nothing waits. -/
theorem State.resumeVerify_clips {s : State} (tags : s.tagsApart) (order : s.PassesInOrder) (apart : s.clipsApart)
    (waits : s.verifyQueue ≠ [] → ∃ n : Fin 64, (s.clip n).state = .verifying) :
    s.resumeVerify.oneVerifies ∧ s.resumeVerify.clipsApart := by
  rcases s.resumeVerify_cases with ⟨idle, e⟩ | ⟨n, verifying, e⟩ <;> rw [e]
  · exact ⟨(State.oneVerifies_iff _).2 ⟨order, waits, fun ⟨k, v⟩ => absurd v (s.verifying_eq_none_iff.1 idle k)⟩, apart⟩
  · exact ⟨order.oneVerifies_requestVerify tags (State.state_of_verifying verifying), by
      simpa only [State.clipsApart, State.requestVerify_clip] using apart⟩

theorem State.resumeVerify_keepsOthers (s : State) : s.KeepsOthers s.resumeVerify := by
  rcases s.resumeVerify_cases with ⟨-, e⟩ | ⟨n, -, e⟩ <;> rw [e]
  · exact {}
  · exact s.requestVerify_keepsOthers n

namespace State.Keeps

variable {a s : State}

theorem clipLoad (h : a.Keeps s) {t : Ticket} {f : ClipLoadFields} : a.Keeps (s.clipLoad t f) := by
  unfold State.clipLoad
  split
  · split
    · exact h.respond
    · next tested =>
      obtain ⟨unguarded, off⟩ := State.clipLoadTest_ok tested
      exact h.trans { State.acceptLoad_keepsOthers with
        clips := fun tags k => State.acceptLoad_clips tags k.1 k.2 unguarded off }
  · exact h.respond

theorem clipFree (h : a.Keeps s) {t : Ticket} {clip : Nat} : a.Keeps (s.clipFree t clip) := by
  unfold State.clipFree
  split
  · dsimp only
    split
    · exact h.respond
    split
    · exact h.respond
    split
    · exact h.trans { State.cancelLoad_keepsOthers .. with clips := fun tags k => State.cancelLoad_clips tags k.1 k.2 }
    · next other =>
      rw [not_or] at other
      exact respond (h.trans { State.mapClip_keepsOthers .. with
        clips := fun _ k => State.freeClip_clips k.1 k.2 other.1 other.2 })
  · exact h.respond

/-- VERIFY_READ_COMPLETE (R67): the one outstanding read has completed, and the pass it was made for ends or goes on. -/
theorem verifyReadComplete (h : a.Keeps s) {txn : Nat} {x : Txn} {n : Fin 64} {answer : Answer}
    (routed : s.bus.issuedTxn txn = some x) (owner : x.owner = .verify n) :
    a.Keeps (if (s.completeTxn txn).verifyRead = some txn then
      ({ s.completeTxn txn with verifyRead := none } : State).endPass n (((s.completeTxn txn).clip n).step answer)
      else (s.completeTxn txn).resumeVerify) := by
  obtain ⟨mem, rfl, -⟩ := Bus.issuedTxn_spec routed
  have complete := s.completeTxn_keepsOthers x.id
  split
  · next awaited =>
    refine h.trans { complete.trans (.trans {} (State.endPass_keepsOthers { s.completeTxn x.id with verifyRead := none } n _)) with
      clips := fun tags k => ?_ }
    obtain ⟨order, -, -⟩ := s.oneVerifies_iff.1 k.1
    obtain ⟨m, owner', verifying⟩ := order.own x mem awaited
    cases owner.symm.trans owner'
    exact State.endPass_clips (complete.tags tags) (order.completeTxn x.id).forgetRead k.2 verifying rfl (Clip.step_samePlace ..)
  · refine h.trans { complete.trans (State.resumeVerify_keepsOthers _) with clips := fun tags k => ?_ }
    obtain ⟨order, waits, -⟩ := s.oneVerifies_iff.1 k.1
    exact State.resumeVerify_clips (complete.tags tags) (order.completeTxn x.id) k.2 waits

end State.Keeps

end Sys2Proof.Machine

namespace Sys2Proof.Machine

/-! ## The disable of a channel (R42, R133) -/

/-- The removal of the window whose number is next in the list of a channel that is disabled. -/
def State.dropListed (s : State) (id : Fin 48) : State :=
  match s.window id with
  | some w => s.removeWindow id w .disabled
  | none => s

theorem State.removeWindows_eq (s : State) (c : Fin 32) : s.removeWindows c = (s.chan c).windows.foldl State.dropListed s := rfl

theorem State.dropListed_window (s : State) (id k : Fin 48) :
    (s.dropListed id).window k = if k = id then none else s.window k := by
  unfold State.dropListed
  split
  · rw [State.removeWindow_eq, State.window_mapChan]
    split
    · next e => rw [e, State.window_setWindow_self]
    · next e => rw [State.window_setWindow_ne _ _ e, State.window_record]
  · split
    · next empty e => rw [e, empty]
    · rfl

theorem State.dropListed_windows_sublist (s : State) (id : Fin 48) (c : Fin 32) :
    ((s.dropListed id).chan c).windows.Sublist (s.chan c).windows := by
  unfold State.dropListed
  split
  · next w _ =>
    rw [State.removeWindow_eq]
    by_cases e : c = w.channel
    · subst e
      rw [State.chan_mapChan_self]
      exact List.filter_sublist
    · rw [State.chan_mapChan_ne _ _ e]
      exact List.Sublist.refl _
  · exact List.Sublist.refl _

theorem State.foldl_dropListed (l : List (Fin 48)) (s : State) (c : Fin 32) :
    (∀ k, (l.foldl State.dropListed s).window k = if k ∈ l then none else s.window k) ∧
      ((l.foldl State.dropListed s).chan c).windows.Sublist (s.chan c).windows := by
  induction l generalizing s with
  | nil => exact ⟨fun k => rfl, List.Sublist.refl _⟩
  | cons id l ih =>
    obtain ⟨windows, list⟩ := ih (s.dropListed id)
    refine ⟨fun k => (windows k).trans ?_, list.trans (s.dropListed_windows_sublist id c)⟩
    rw [State.dropListed_window]
    by_cases inRest : k ∈ l
    · simp [inRest]
    · simp [inRest]

/-- R42: once its windows are removed the channel has none, as R121 keeps its list equal to its records. -/
theorem State.removeWindows_windows {s : State} {c : Fin 32} (h : (s.removeWindows c).windowsListed) :
    ((s.removeWindows c).chan c).windows = [] := by
  obtain ⟨-, named, -⟩ := h c
  rw [State.removeWindows_eq] at named ⊢
  obtain ⟨windows, list⟩ := State.foldl_dropListed (s.chan c).windows s c
  refine List.eq_nil_iff_forall_not_mem.2 fun k mem => ?_
  obtain ⟨w, held, -⟩ := (named k).1 mem
  rw [windows k, if_pos (list.subset mem)] at held
  cases held

namespace State.Keeps

variable {a s : State} {c : Fin 32}

/-- A channel without windows is emptied. -/
theorem emptyChan (h : a.Keeps s) (none_ : s.windowsListed → (s.chan c).windows = []) : a.Keeps (s.mapChan c Channel.disabled) := by
  refine h.trans { events := fun d x => ?_, windows := fun x d => ?_ }
  · by_cases e : d = c
    · subst e
      rw [State.chan_mapChan_self]
      exact ⟨Nat.zero_le _, Nat.zero_le _, List.nodup_nil⟩
    · rwa [State.chan_mapChan_ne _ _ e]
  · by_cases e : d = c
    · subst e
      rw [State.chan_mapChan_self]
      refine ⟨List.nodup_nil, fun id => ?_, fun id => nofun⟩
      have := (x d).2.1 id
      rwa [none_ x] at this
    · rw [State.chan_mapChan_ne _ _ e]
      exact x d

theorem disableChannel (h : a.Keeps s) : a.Keeps (s.disableChannel c) := by
  have left : a.Keeps (if (s.chan c).state = .insert then s.abandon c .cut .disabled else s) := by
    split
    · exact h.abandon
    · exact h
  exact left.retireQueue.removeWindows.emptyChan State.removeWindows_windows

theorem channelSet (h : a.Keeps s) {t : Ticket} {f : ChannelSetFields} : a.Keeps (s.channelSet t f) := by
  unfold State.channelSet
  split
  · dsimp only
    split
    · refine respond ?_
      split
      · exact h
      · exact h.disableChannel
    · unfold State.channelEnable
      dsimp only
      split
      · exact h.respond
      split
      · exact h.respond
      split
      · exact h.respond
      split
      · exact h.respond
      · refine respond ?_
        split
        · exact h.enableChannel
        · exact h.reconfigure
  · exact h.respond

/-! ## Bindings (R79, R80) -/

/-- A binding goes into the slot of its key, or into any slot when its key has none. -/
theorem setBinding (h : a.Keeps s) {i : Fin 8} {b : Binding} (slot : ∀ k, slotOfKey (s.bindingTable c) b.key = some k → k = i) :
    a.Keeps (s.setBindings c ((s.bindingTable c).set i (some b))) := by
  have alone {l : Fin 8} {z : Binding} (apart : s.keysApart) (hz : (s.bindingTable c)[l] = some z) (same : z.key = b.key) : l = i := by
    refine slot l (slotOfKey_of_unique hz same fun j z' hz' same' => ?_)
    exact apart c j l z' z hz' hz (same'.trans same.symm)
  refine h.setBindings fun j k x y apart hj hk same => ?_
  rcases bindingTable_set hj with ⟨ej, bx⟩ | ⟨-, oldj⟩
  · cases bx
    rcases bindingTable_set hk with ⟨ek, -⟩ | ⟨-, oldk⟩
    · exact ej.trans ek.symm
    · exact ej.trans (alone apart oldk same.symm).symm
  · rcases bindingTable_set hk with ⟨ek, bx⟩ | ⟨-, oldk⟩
    · cases bx
      exact (alone apart oldj same).trans ek.symm
    · exact apart c j k x y oldj oldk same

theorem bind (h : a.Keeps s) {t : Ticket} {f : BindFields} : a.Keeps (s.bind t f) := by
  unfold State.bind
  dsimp only
  split
  · split
    · exact h.respond
    split
    · exact h.respond
    split
    · exact h.respond
    split
    · next slot =>
      refine respond (h.setBinding fun k known => ?_)
      rw [known] at slot
      exact Option.some.inj slot
    · exact h.respond
  · exact h.respond

theorem unbind (h : a.Keeps s) {t : Ticket} {channel key : Nat} : a.Keeps (s.unbind t channel key) := by
  unfold State.unbind
  dsimp only
  split
  · split
    · exact h.respond
    split
    · exact h.respond
    · refine respond (h.setBindings fun j k x y apart hj hk => ?_)
      obtain ⟨-, none_⟩ | ⟨-, oldj⟩ := bindingTable_set hj
      · cases none_
      obtain ⟨-, none_⟩ | ⟨-, oldk⟩ := bindingTable_set hk
      · cases none_
      exact apart _ j k x y oldj oldk
  · exact h.respond

/-! ## Windows and AVAIL_ABORT (R116, R122, R132) -/

theorem windowAdd (h : a.Keeps s) {t : Ticket} {f : WindowAddFields} : a.Keeps (s.windowAdd t f) := by
  unfold State.windowAdd
  split
  · dsimp only
    split
    · exact h.respond
    · next passed =>
      refine respond (h.addWindow ?_)
      simp only [State.windowAddTest] at passed
      split at passed
      · cases passed
      split at passed
      · cases passed
      split at passed
      · cases passed
      · next empty => simpa using empty
  · exact h.respond

theorem windowDrop (h : a.Keeps s) {t : Ticket} {window : Nat} : a.Keeps (s.windowDrop t window) := by
  unfold State.windowDrop
  split
  · split
    · exact h.respond
    · next w held =>
      refine respond ?_
      unfold State.dropWindow
      dsimp only
      split
      · exact (h.removeWindow held).quietChan
      · exact h.removeWindow held
  · exact h.respond

theorem availAbort (h : a.Keeps s) {t : Ticket} {channel event : Nat} : a.Keeps (s.availAbort t channel event) := by
  unfold State.availAbort
  dsimp only
  split
  · split
    · exact h.respond
    split
    · exact h.respond
    · exact h.abandon.quietChan.respond
  · exact h.respond

end State.Keeps
end Sys2Proof.Machine

namespace Sys2Proof.Machine

/-! ## Alert contexts in order (R153 to R157, R162) -/

theorem AlertControl.knows_eq_false_iff (x : AlertControl) (alert : Nat) : x.knows alert = false ↔
    alert ∉ (x.current.toList ++ x.queue).map AlertContext.alert ∧ alert ∉ x.recent := by
  cases h : x.current <;> simp [AlertControl.knows, h, and_assoc, @eq_comm _ alert]

/-- The smallest level is that of a context of the queue, when it is below the levels there are. -/
theorem exists_lowestLevel {q : List AlertContext} (h : lowestLevel q < 4) : ∃ x ∈ q, x.level = lowestLevel q := by
  have found (m : Nat) : (q.foldl (fun m x => min m x.level) m = m) ∨ ∃ x ∈ q, x.level = q.foldl (fun m x => min m x.level) m := by
    clear h
    induction q generalizing m with
    | nil => exact .inl rfl
    | cons y q ih =>
      simp only [List.foldl_cons]
      rcases ih (min m y.level) with e | ⟨x, hx, e⟩
      · rcases Nat.le_total m y.level with le | le
        · exact .inl (e.trans (Nat.min_eq_left le))
        · exact .inr ⟨y, List.mem_cons_self .., (e.trans (Nat.min_eq_right le)).symm⟩
      · exact .inr ⟨x, .tail _ hx, e⟩
  exact (found 4).resolve_left (Nat.ne_of_lt h)

theorem takeLastAtLevel_sublist (level : Nat) (q : List AlertContext) : (takeLastAtLevel level q).2.Sublist q := by
  rw [takeLastAtLevel, ← List.reverse_sublist, List.reverse_reverse]
  exact List.eraseP_sublist

theorem takeLastAtLevel_length {level : Nat} {q : List AlertContext} (h : ∃ x ∈ q, x.level = level) :
    (takeLastAtLevel level q).2.length = q.length - 1 := by
  obtain ⟨x, hx, e⟩ := h
  rw [takeLastAtLevel, List.length_reverse, List.length_eraseP_of_mem (List.mem_reverse.2 hx) (by simp [e]), List.length_reverse]

/-- A context with a target set and an activation time becomes current, before what stays of the queue. -/
theorem AlertControl.inOrder.withCurrent {x : AlertControl} (h : x.inOrder) {q : List AlertContext} {r : List Nat} {y : AlertContext}
    (sub : q.Sublist x.queue) (length : r.length ≤ 8) (nodup : r.Nodup) (fresh : y.alert ∉ q.map AlertContext.alert)
    (state : y.state = .active) (target : y.target.isSome) (activated : y.activated.isSome) :
    ({ x with current := some y, queue := q, recent := r } : AlertControl).inOrder := by
  obtain ⟨room, -, -, ids, queued, -, -⟩ := h
  have queueIds : (q.map AlertContext.alert).Nodup := by
    rw [List.map_append] at ids
    exact (List.nodup_append.1 ids).2.1.sublist (sub.map _)
  refine ⟨sub.length_le.trans room, length, nodup, List.nodup_cons.2 ⟨fresh, queueIds⟩, fun z hz => queued z (sub.subset hz), nofun,
    fun z hz => ?_⟩
  cases hz
  exact ⟨.inl state, target, activated⟩

/-- A new context joins what stays of the queue behind an ACTIVE one. -/
theorem AlertControl.inOrder.join {x : AlertControl} (h : x.inOrder) {q : List AlertContext} {old y : AlertContext}
    (current : x.current = some old) (notHeld : old.state ≠ .held) (sub : q.Sublist x.queue) (room : q.length < 4)
    (fresh : y.alert ∉ (x.current.toList ++ x.queue).map AlertContext.alert)
    (state : y.state = .queued ∧ y.target = none ∧ y.activated = none) :
    ({ x with queue := q ++ [y], recent := joinRecent 8 x.recent y.alert } : AlertControl).inOrder := by
  obtain ⟨-, -, recent, ids, queued, -, currents⟩ := h
  obtain ⟨active, target, activated⟩ := currents old current
  refine ⟨by simp; omega, joinRecent_length_le .., joinRecent_nodup 8 _ recent, ?_, fun z hz => ?_, fun none_ => ?_, fun z hz => ?_⟩
  · rw [← List.append_assoc, List.map_append]
    have part : ((x.current.toList ++ q).map AlertContext.alert).Sublist ((x.current.toList ++ x.queue).map AlertContext.alert) :=
      ((List.Sublist.refl _).append sub).map _
    refine List.nodup_append.2 ⟨ids.sublist part, by simp, fun i hi j hj e => fresh (part.subset ?_)⟩
    rw [← List.mem_singleton.1 hj, ← e]
    exact hi
  · rcases List.mem_append.1 hz with old | new
    · exact queued z (sub.subset old)
    · cases List.mem_singleton.1 new
      exact state
  · cases current.symm.trans none_
  · cases current.symm.trans hz
    exact ⟨.inl (active.resolve_right fun held => notHeld held.1), target, activated⟩

theorem State.foldl_record_alerts {α : Type} (f : State → α → Record) (l : List α) (s : State) :
    (l.foldl (fun s x => s.record (f s x)) s).alerts = s.alerts :=
  foldl_keeps State.alerts (fun s x => s.record (f s x)) (fun _ _ => rfl) l s

namespace State.Keeps

variable {a s : State}

/-- One context takes the place of another, and the channels follow (R163). -/
theorem handover (h : a.Keeps s) {x : AlertControl} {old new : AlertContext} {why : AlertEndReason}
    (k : s.alerts.inOrder → ({ x with current := some { new with
        state := .active, target := some (x.targetOf new.groupMask), activated := some s.house } } : AlertControl).inOrder) :
    a.Keeps (({ s with alerts := x } : State).handover old new why) :=
  foldl (fun _ _ => refl.handoverChannel) _ (h.record.setAlerts k).record

theorem endCurrent (h : a.Keeps s) {x : AlertContext} {why : AlertEndReason} (alone : s.alerts.queue = []) :
    a.Keeps (s.endCurrent x why) := by
  refine forEnabled (record (h.setAlerts fun k => ?_)) fun _ _ => leaveAlert refl
  obtain ⟨room, length, recent, -, queued, -, -⟩ := k
  exact ⟨room, length, recent, by simp [alone], queued, fun _ => alone, fun _ => nofun⟩

theorem handToHead (h : a.Keeps s) {old head : AlertContext} {rest : List AlertContext} {why : AlertEndReason}
    (queue : s.alerts.queue = head :: rest) : a.Keeps (s.handToHead old head rest why) := by
  refine h.handover (x := { s.alerts with queue := rest }) fun k => ?_
  obtain ⟨-, length, recent, ids, -⟩ := id k
  have ids' : ((head :: rest).map AlertContext.alert).Nodup := by
    rw [List.map_append, queue] at ids
    exact (List.nodup_append.1 ids).2.1
  exact AlertControl.inOrder.withCurrent k (queue ▸ List.sublist_cons_self ..) length recent (List.nodup_cons.1 ids').1 rfl rfl rfl

theorem expire (h : a.Keeps s) {x : AlertContext} (current : s.alerts.current = some x) : a.Keeps (s.expire x) := by
  unfold State.expire
  split
  · exact h.handToHead ‹_›
  · next queue _ =>
    refine h.setAlerts fun ⟨room, length, recent, ids, queued, _, currents⟩ => ?_
    obtain ⟨-, target, activated⟩ := currents x current
    refine ⟨room, length, recent, by simp [queue], queued, nofun, fun y hy => ?_⟩
    cases hy
    exact ⟨.inr ⟨rfl, queue⟩, target, activated⟩
  · next queue _ => exact h.endCurrent queue

theorem activateFresh (h : a.Keeps s) {x : AlertControl} {new : AlertContext}
    (k : s.alerts.inOrder → ({ x with current := some { new with
        state := .active, target := some (x.targetOf new.groupMask), activated := some s.house } } : AlertControl).inOrder) :
    a.Keeps (({ s with alerts := x } : State).activateFresh new) :=
  forEnabled (h.setAlerts k).record fun _ _ => takeIntoAlert refl

theorem arrive (h : a.Keeps s) {x : Arrival} (level : x.level ≤ 3) : a.Keeps (s.arrive x).1 := by
  unfold State.arrive
  split
  · exact h.setAlerts fun k => k
  next unknown =>
  obtain ⟨fresh, -⟩ := (AlertControl.knows_eq_false_iff ..).1 (Bool.eq_false_iff.2 unknown)
  have notQueued : x.alert ∉ s.alerts.queue.map AlertContext.alert := fun mem => fresh (by
    rw [List.map_append]
    exact List.mem_append_right _ mem)
  have becomes {t : ChannelMask} (k : s.alerts.inOrder) : ({ s.alerts with
      current := some { x.context with state := .active, target := some t, activated := some s.house }
      recent := joinRecent 8 s.alerts.recent x.context.alert } : AlertControl).inOrder :=
    k.withCurrent (List.Sublist.refl _) (joinRecent_length_le ..) (joinRecent_nodup 8 _ k.2.2.1) notQueued rfl rfl rfl
  dsimp only
  split
  · dsimp only
    exact h.activateFresh (x := { s.alerts with recent := joinRecent 8 s.alerts.recent x.context.alert }) becomes
  · next old current =>
    split
    · dsimp only
      exact h.handover (x := { s.alerts with recent := joinRecent 8 s.alerts.recent x.context.alert }) becomes
    · next behind =>
      rw [not_or] at behind
      unfold State.arriveBehind
      split
      · next room => exact h.setAlerts fun k => k.join current behind.1 (List.Sublist.refl _) room fresh ⟨rfl, rfl, rfl⟩
      · dsimp only
        split
        · next low =>
          have joins (k : s.alerts.inOrder) : ({ s.alerts with
              queue := (takeLastAtLevel (lowestLevel s.alerts.queue) s.alerts.queue).2 ++ [x.context]
              recent := joinRecent 8 s.alerts.recent x.context.alert } : AlertControl).inOrder := by
            refine k.join current behind.1 (takeLastAtLevel_sublist ..) ?_ fresh ⟨rfl, rfl, rfl⟩
            have some_ : lowestLevel s.alerts.queue < 4 := Nat.lt_of_lt_of_le low (Nat.le_succ_of_le level)
            have := k.1
            rw [takeLastAtLevel_length (exists_lowestLevel some_)]
            omega
          split
          · exact h.record.setAlerts joins
          · exact h.setAlerts joins
        · exact h.record

theorem alertSend (h : a.Keeps s) {t : Ticket} {f : AlertSendFields} : a.Keeps (s.alertSend t f) := by
  unfold State.alertSend
  split
  · split
    · exact h.respond
    · dsimp only
      have level : clamp 1 3 f.level ≤ 3 := by
        unfold clamp
        omega
      split <;> exact (h.arrive level).respond
  · exact h.respond

theorem flushQueue (h : a.Keeps s) : a.Keeps s.flushQueue := by
  refine foldl (fun _ _ => record refl) _ (h.setAlerts fun ⟨_, length, recent, ids, _, _, currents⟩ => ?_)
  refine ⟨Nat.zero_le _, length, recent, ?_, nofun, fun _ => rfl, fun x hx => ?_⟩
  · exact ids.sublist (((List.Sublist.refl _).append (List.nil_sublist _)).map _)
  · obtain ⟨state, rest⟩ := currents x hx
    exact ⟨state.imp_right fun held => ⟨held.1, rfl⟩, rest⟩

theorem alertClear (h : a.Keeps s) {t : Ticket} {flush : Nat} : a.Keeps (s.alertClear t flush) := by
  unfold State.alertClear
  split
  · exact h.respond
  · dsimp only
    refine respond ?_
    split
    · split
      · next queue => exact h.endCurrent queue
      · next queue => exact h.handToHead queue
    · refine h.flushQueue.endCurrent ?_
      exact congrArg AlertControl.queue (State.foldl_record_alerts (fun s x => AlertContext.endRecord x .dropped s.house false) _ _)

theorem alertMode (h : a.Keeps s) {t : Ticket} {mode : Nat} : a.Keeps (s.alertMode t mode) := by
  unfold State.alertMode
  split
  · exact h.respond
  split
  · exact h.respond
  · next m _ _ => exact (h.setAlerts (x := { s.alerts with mode := m }) fun k => k).respond

theorem groupEdit (h : a.Keeps s) {t : Ticket} {group mode mask : Nat} : a.Keeps (s.groupEdit t group mode mask) := by
  unfold State.groupEdit
  split
  · split
    · exact h.respond
    · next g _ => exact (h.setAlerts (x := { s.alerts with groups := s.alerts.groups.set group g }) fun k => k).respond
  · exact h.respond

end State.Keeps
end Sys2Proof.Machine

namespace Sys2Proof.Machine

theorem LogWriter.recordDone_inPlace {l : LogWriter} (h : l.inPlace) (first : Nat) : (l.recordDone first).inPlace := by
  obtain ⟨place, below, size, batch, marks⟩ := h
  refine ⟨place, below, size, fun b hb => ?_, fun c hc => ?_⟩
  · obtain ⟨b', hb', rfl⟩ := Option.map_eq_some_iff.1 hb
    obtain ⟨open_, room, count⟩ := batch b' hb'
    refine ⟨open_, room, ?_⟩
    split <;> exact count
  · obtain ⟨c', hc', rfl⟩ := List.mem_map.1 hc
    have := marks c' hc'
    split <;> exact this

/-- Batches leave the log's lists, and it is still in place. -/
theorem LogWriter.inPlace.drop {l : LogWriter} (h : l.inPlace) {closing : List ClosedBatch} (sub : closing.Sublist l.closing)
    (st : LogState) : ({ l with batch := none, closing := closing, state := st } : LogWriter).inPlace := by
  obtain ⟨place, below, size, -, marks⟩ := h
  exact ⟨place, below, size, nofun, fun c hc => marks c (sub.subset hc)⟩

theorem LogWriter.inPlace.dropMark {l : LogWriter} (h : l.inPlace) {closing : List ClosedBatch} (sub : closing.Sublist l.closing) :
    ({ l with closing := closing } : LogWriter).inPlace := by
  obtain ⟨place, below, size, batch, marks⟩ := h
  exact ⟨place, below, size, batch, fun c hc => marks c (sub.subset hc)⟩

theorem Bus.writeSnapshot_grows (job dest : Nat) (bytes : List Byte) (n i : Nat) (b : Bus) :
    b.Grows (Bus.writeSnapshot job dest bytes n i b) := by
  induction n generalizing i b with
  | zero => exact .refl
  | succ n ih => exact (Bus.Grows.write .refl (dest + 128 * i) (slice bytes (128 * i) 128) (owner := .snapshot job) rfl).trans (ih ..)

namespace State.Keeps

variable {a s : State}

/-! ## The log (chapter 10) -/

theorem answerCloses (h : a.Keeps s) : a.Keeps s.answerCloses := by
  refine foldl (fun s w => ?_) _ (h.setLog fun k => k)
  split
  · exact refl.respond
  · exact refl.respond

theorem settleBatches (h : a.Keeps s) {failed : Bool} {batches : List Nat} : a.Keeps (s.settleBatches failed batches) :=
  answerCloses (h.setLog fun k => k)

theorem stopLog (h : a.Keeps s) {first : Nat} : a.Keeps (s.stopLog first) :=
  settleBatches (h.setLog fun k => k.drop List.filter_sublist .stopped)

theorem logRecordAnswered (h : a.Keeps s) {run first : Nat} {x : Answer} : a.Keeps (s.logRecordAnswered run first x) := by
  unfold State.logRecordAnswered
  split
  · exact h
  split
  · have grows : s.bus.Grows (s.logRecordOk first).bus := by
      simp only [State.logRecordOk]
      split
      · exact LogWriter.requestMark_grows ..
      · exact .refl
    exact (h.setLog fun k => LogWriter.recordDone_inPlace k first).setBus grows
  · split
    · exact h
    · exact stopLog (h.setLog (l := s.log.withhold) fun k => k)

theorem logMarkAnswered (h : a.Keeps s) {run first : Nat} {x : Answer} : a.Keeps (s.logMarkAnswered run first x) := by
  unfold State.logMarkAnswered
  split
  · exact h
  split
  · exact h
  dsimp only
  have dropped : a.Keeps { s with log := { s.log with closing := s.log.closing.filter fun b => b.first != first } } :=
    h.setLog fun k => k.dropMark List.filter_sublist
  split
  · exact dropped.settleBatches
  split
  · exact dropped.settleBatches
  · exact h.stopLog

theorem logClose (h : a.Keeps s) {t : Ticket} : a.Keeps (s.logClose t) := by
  unfold State.logClose
  dsimp only
  split
  · exact h.closeBatch.respond
  · exact h.closeBatch.setLog fun k => k

theorem logRestart (h : a.Keeps s) {t : Ticket} : a.Keeps (s.logRestart t) := by
  have restarted : a.Keeps { s with log := s.log.restart } :=
    h.setLog fun _ => ⟨rfl, Nat.zero_le _, Nat.le_refl _, nofun, nofun⟩
  unfold State.logRestart
  dsimp only
  refine respond (setLog (l := { LogWriter.withhold _ with withheld := 0 }) (record (foldl (fun _ _ => refl.respond) _ restarted)) fun k => k)

/-! ## The directive unit (chapter 11) -/

theorem handTail (h : a.Keeps s) {m : RegionMap} {x : Txn} {w : WordTouch} : a.Keeps (s.handTail m x w) := by
  unfold State.handTail
  split
  · refine h.setDir fun ⟨head, tail, responseHead, responseTail⟩ => ?_
    unfold DirectiveUnit.takeTail
    split
    · exact ⟨head, ‹_›, responseHead, responseTail⟩
    · exact ⟨head, tail, responseHead, responseTail⟩
  · exact h.setDir fun k => k
  · exact h

theorem handHead (h : a.Keeps s) {m : RegionMap} {x : Txn} {w : WordTouch} : a.Keeps (s.handHead m x w) := by
  unfold State.handHead
  split
  · refine h.setDir fun ⟨head, tail, responseHead, responseTail⟩ => ?_
    unfold DirectiveUnit.takeHead
    dsimp only
    split
    · next taken => exact ⟨head, tail, taken.1, responseTail⟩
    · exact ⟨head, tail, responseHead, responseTail⟩
  · exact h.setDir fun k => k
  · exact h

theorem directiveFetch (h : a.Keeps s) : a.Keeps (if s.mayFetch then
      { s with
        dir := { s.dir with owed := s.dir.owed + 1, fetching := true }
        bus := s.bus.read 3 (s.directiveBase + 64 * s.dir.head) 64 (.directiveFetch s.dir.head) }
    else s) := by
  split
  · exact h.setDirBus (fun k => k) (.read .refl _ _ _ rfl)
  · exact h

theorem dispatch (h : a.Keeps s) {slot : Nat} {x : Answer} : a.Keeps (s.dispatch slot x) := by
  unfold State.dispatch
  split
  · exact respond (h.setDir (d := { s.dir with fetchErrors := sat s.dir.fetchErrors }) fun k => k)
  split
  · exact h.setDir fun k => k
  · exact h.respond

theorem fetched (h : a.Keeps s) : a.Keeps (s.mapDir DirectiveUnit.fetched) :=
  h.setDir fun ⟨_, rest⟩ => ⟨Nat.mod_lt _ (by decide), rest⟩

theorem countWriteError (h : a.Keeps s) {x : Answer} : a.Keeps (s.countWriteError x) := by
  unfold State.countWriteError
  split
  · exact h.setDir fun k => k
  · exact h

theorem writeTailWord (h : a.Keeps s) : a.Keeps s.writeTailWord := h.setBus (.write .refl _ _ rfl)

theorem takeDirective (h : a.Keeps s) {c : Instr} {f : State → State} (k : ∀ s : State, s.Keeps (f s)) :
    a.Keeps (s.takeDirective c f) := by
  unfold State.takeDirective
  split
  · exact (h.setDir (d := { s.dir with dispatched := none }) fun k => k).trans (k _)
  · exact h

/-! ## STATUS (section 11.5) -/

theorem clearScope (h : a.Keeps s) {x : Scope} : a.Keeps (s.clearScope x) := by
  cases x with
  | device => exact h.trans {}
  | channel c => exact h.quietChan (f := fun ch => { ch with counts := ChannelCounts.zero, malformedIngest := 0 })
  | clip n => exact h

theorem status (h : a.Keeps s) {t : Ticket} {scope number dest : Nat} : a.Keeps (s.status t scope number dest) := by
  unfold State.status
  split
  · exact h.respond
  split
  · exact h.clearScope.setDirBus (fun k => k) (Bus.writeSnapshot_grows ..)
  · exact h.respond

theorem snapshotAnswered (h : a.Keeps s) {job : Nat} {x : Answer} : a.Keeps (s.snapshotAnswered job x) := by
  refine foldl (fun s w => ?_) _ (setDir (h.setDir fun k => k) fun k => k)
  split
  · exact refl.respond
  · exact refl.respond

end State.Keeps
end Sys2Proof.Machine

namespace Sys2Proof.Machine

namespace State.Keeps

variable {a s : State}

/-! ## Responses from memory (R2) -/

theorem onResponse (h : a.Keeps s) {id : Nat} {f : Txn → State → State}
    (k : ∀ x, s.bus.issuedTxn id = some x → s.Keeps (f x s)) : a.Keeps (s.onResponse id f) := by
  rcases s.onResponse_cases id f with ⟨-, e⟩ | ⟨x, routed, stale, e⟩ | ⟨x, routed, -, e⟩ <;> rw [e]
  · exact h
  · exact h.completeTxn routed (by rw [stale]; rfl)
  · exact h.trans (k x routed)

/-! ## The path unit (chapter 1) -/

theorem accept (h : a.Keeps s) (room : s.hasRoom) {write : Bool} {tag addr len : Nat} {data : List Byte} {enables : List Bool}
    {t : Treatment} {owner : Owner} (other : owner.verifies = false) : a.Keeps (s.accept write tag addr len data enables t owner) := by
  have requested := h.setBus (b := s.bus.request 1 write addr len data enables owner) (.request .refl _ rfl (Nat.le_refl _) other)
  have free : s.entries.length < 64 := of_decide_eq_true room
  refine ⟨{ requested.toKeepsOthers with tags := fun k => ?_ }, requested.clips⟩
  obtain ⟨-, entries, entryTags, -⟩ := h.tags k
  obtain ⟨-, -, -, txns⟩ := requested.tags k
  refine ⟨by simpa [State.accept] using free, ?_, fun e he => ?_, txns⟩
  · simp only [State.accept, List.map_append, List.map_cons, List.map_nil]
    refine List.nodup_append.2 ⟨entries, by simp, fun i hi j hj => ?_⟩
    obtain ⟨e, he, rfl⟩ := List.mem_map.1 hi
    cases List.mem_singleton.1 hj
    exact (entryTags e he).ne
  · rcases List.mem_append.1 he with old | new
    · exact Nat.lt_succ_of_lt (entryTags e old)
    · cases List.mem_singleton.1 new
      exact Nat.lt_succ_self _

theorem countMisaligned (h : a.Keeps s) {addr len : Nat} : a.Keeps (s.countMisaligned addr len) := by
  refine foldl (fun s c => ?_) _ h
  split
  · exact refl.quietChan (f := fun ch => { ch with counts := { ch.counts with misaligned := sat ch.counts.misaligned } })
  · exact refl

theorem countMisaligned_entries (s : State) (addr len : Nat) : (s.countMisaligned addr len).entries = s.entries := by
  unfold State.countMisaligned
  induction List.finRange 32 generalizing s with
  | nil => rfl
  | cons c l ih =>
    rw [List.foldl_cons, ih]
    split <;> rfl

theorem upstreamRead (h : a.Keeps s) {tag addr len : Nat} : a.Keeps (if s.hasRoom then
      match s.eligibleFor addr len with
      | some c => s.accept false tag addr len [] [] { Treatment.pass with eligible := some c } .networkFetch
      | none => (s.countMisaligned addr len).accept false tag addr len [] [] Treatment.pass .upstream
    else s) := by
  split
  · next room =>
    split
    · exact h.accept room rfl
    · exact h.countMisaligned.accept (by rwa [State.hasRoom, countMisaligned_entries]) rfl
  · exact h

theorem choose_txns (b : Bus) : b.choose.2.txns = b.txns := by
  unfold Bus.choose
  split <;> rfl

theorem choose (h : a.Keeps s) : a.Keeps { s with bus := s.bus.choose.2 } :=
  h.markBus id (by rw [choose_txns, List.map_id]) (by unfold Bus.choose; split <;> rfl) fun _ => ⟨rfl, rfl, rfl⟩

theorem issue (h : a.Keeps s) {id : Nat} : a.Keeps { s with bus := s.bus.issue id } :=
  h.markBus (fun t => if t.id = id then { t with issued := true } else t) rfl rfl fun x => by split <;> exact ⟨rfl, rfl, rfl⟩

theorem choose_mem {b : Bus} {x : Txn} (h : b.choose.1 = some x) : x ∈ b.txns := by
  have first (y : Txn) (hy : y ∈ b.firstCandidates) : y ∈ b.txns := by
    simp only [Bus.firstCandidates, List.mem_filter] at hy
    exact hy.1.1.1
  unfold Bus.choose at h
  split at h
  · cases h
  · next e =>
    cases h
    exact first _ (e ▸ List.mem_singleton.2 rfl)
  · next l y u rest e =>
    cases h
    rw [List.getD_eq_getElem _ _ (Nat.mod_lt _ (by simp))]
    exact first _ (by rw [e]; exact List.getElem_mem _)

theorem recordRefusal (h : a.Keeps s) {t : Txn} : a.Keeps (s.recordRefusal t) := by
  unfold State.recordRefusal
  split
  · exact h.record
  · exact h

theorem refuseWrite (h : a.Keeps s) {t : Txn} (mem : t ∈ s.bus.txns) (refused : s.refuses t = true) :
    a.Keeps (s.refuseWrite t) := by
  have upstream : t.owner = .upstream := by
    simp only [State.refuses, Bool.and_eq_true, beq_iff_eq] at refused
    exact refused.1.1
  exact (h.leaveList mem (by rw [upstream]; rfl)).answer.recordRefusal.trans {}

theorem grant (k : Nat) (h : a.Keeps s) : a.Keeps (State.grant k s) := by
  induction k generalizing s with
  | zero => exact h
  | succ k ih =>
    rw [State.grant]
    dsimp only
    split
    · exact h.choose
    · next t e =>
      split
      · next refused =>
        have mem : t ∈ s.bus.choose.2.txns := by
          rw [choose_txns]
          exact choose_mem e
        exact ih (h.choose.refuseWrite mem refused)
      · exact h.choose.issue

theorem treatWrite (h : a.Keeps s) {t : Txn} {e : Entry} : a.Keeps (s.treatWrite t e) := by
  unfold State.treatWrite
  split
  · exact h
  dsimp only
  split
  · exact h.reportRingWrite.handTail.handHead
  · exact h.handTail.handHead

theorem finishUpstream (h : a.Keeps s) {t : Txn} {id : Nat} {e : Entry} {x : Answer} (routed : s.bus.issuedTxn id = some t)
    (upstream : t.owner = .upstream) : a.Keeps (s.finishUpstream t e x) := by
  obtain ⟨mem, -, -⟩ := Bus.issuedTxn_spec routed
  have complete := h.leaveList mem (by rw [upstream]; rfl)
  unfold State.finishUpstream
  dsimp only
  split
  · exact complete.answer
  · exact complete.treatWrite.answer

theorem fetchDone (h : a.Keeps s) {t : Txn} {id : Nat} {e : Entry} {x : Answer} (routed : s.bus.issuedTxn id = some t)
    (fetch : t.owner = .networkFetch) : a.Keeps (s.fetchDone t e x) := by
  obtain ⟨mem, -, -⟩ := Bus.issuedTxn_spec routed
  have complete := h.leaveList mem (by rw [fetch]; rfl)
  unfold State.fetchDone
  dsimp only
  split
  · exact complete.quietChan (f := fun ch => { ch with ready := ch.ready ++ [⟨t.id, x⟩] })
  · exact complete

theorem onWriteDone (h : a.Keeps s) {id : Nat} {f : Treatment → Bool} : a.Keeps (s.onWriteDone id f) := by
  refine h.onResponse fun x routed => ?_
  split
  · next upstream _ =>
    split
    · exact refl.finishUpstream routed upstream
    · exact refl
  · exact refl

/-! ## The boot (section 11.6) -/

theorem bootFault (h : a.Keeps s) : a.Keeps s.bootFault := h.trans {}

/-- The two words are asked for together, with one request time. -/
theorem readWords (h : a.Keeps s) {x : BootImage} : a.Keeps (s.readWords x) := by
  have grows : s.bus.Grows (s.bus.requestWords x.map) := by
    have := (Bus.Grows.refl.request ⟨s.bus.next, s.bus.next, 3, false, x.map.tailWord, 4, [], [], .bootTail, false⟩ rfl
      (Nat.le_refl _) rfl).request ⟨s.bus.next + 1, s.bus.next, 3, false, x.map.headWord, 4, [], [], .bootHead, false⟩ rfl
      (Nat.le_succ _) rfl
    simpa [Bus.requestWords] using this
  exact (h.setBus grows).trans {}

theorem wordsComplete (h : a.Keeps s) : a.Keeps s.wordsComplete := by
  refine h.withdraw fun _ x _ v => ?_
  cases e : x.owner <;> simp_all [Owner.verifies]

theorem bootWords_inRings (d : DirectiveUnit) (tail head : Nat) : (d.bootWords tail head).inRings := by
  unfold DirectiveUnit.bootWords DirectiveUnit.bootHead DirectiveUnit.bootTail DirectiveUnit.inRings
  split <;> split <;> simp [*, DirectiveUnit.ignoreTail, DirectiveUnit.ignoreHead]

theorem finishBoot (h : a.Keeps s) {x : BootImage} {tail head : List Byte} : a.Keeps (s.finishBoot x tail head) := by
  have values : a.Keeps (s.takeBootValues x) :=
    h.trans { log := fun _ => ⟨rfl, Nat.zero_le _, Nat.le_refl _, nofun, nofun⟩ }
  exact putResponse (values.setDir fun _ => bootWords_inRings ..)

theorem bootRecordRead (h : a.Keeps s) {r : List Byte} : a.Keeps (if s.boot = .readingRecord then
      match parseBoot r with
      | some x => s.readWords x
      | none => s.bootFault
    else s) := by
  split
  · split
    · exact h.readWords
    · exact h.bootFault
  · exact h

theorem bootWordReadsComplete (h : a.Keeps s) {tail head : Answer} : a.Keeps (if s.wordsIssued then
      match s.image, tail, head with
      | some x, .ok a, .ok b => s.wordsComplete.finishBoot x a b
      | _, _, _ => s.wordsComplete.bootFault
    else s) := by
  split
  · split
    · exact h.wordsComplete.finishBoot
    · exact h.wordsComplete.bootFault
  · exact h

end State.Keeps

/-! ## Reset (R17) -/

/-- A transaction that goes on over a reset keeps its tag, and is no verification read. -/
theorem Txn.atReset_spec {x y : Txn} (h : x.atReset = some y) : y.id = x.id ∧ y.time = x.time ∧ y.owner.verifies = false := by
  unfold Txn.atReset at h
  split at h
  · cases h
    exact ⟨rfl, rfl, by simp [*, Owner.verifies]⟩
  · cases h
    exact ⟨rfl, rfl, rfl⟩
  · split at h <;> cases h
    exact ⟨rfl, rfl, rfl⟩

theorem map_id_filterMap_atReset (l : List Txn) : ((l.filterMap Txn.atReset).map Txn.id).Sublist (l.map Txn.id) := by
  induction l with
  | nil => exact .slnil
  | cons x l ih =>
    cases e : x.atReset with
    | none =>
      rw [List.filterMap_cons_none e]
      exact ih.cons _
    | some y =>
      rw [List.filterMap_cons_some e, List.map_cons, (Txn.atReset_spec e).1]
      exact ih.cons_cons _

theorem State.reset_window (id : Fin 48) : State.reset.window id = none := by
  simp [State.window, State.reset]

theorem State.reset_chan (c : Fin 32) : State.reset.chan c = Channel.reset := by
  simp [State.chan, State.reset]

theorem State.reset_clip (n : Fin 64) : State.reset.clip n = Clip.reset := by
  simp [State.clip, State.reset]

theorem State.reset_bindingTable (c : Fin 32) : State.reset.bindingTable c = Vector.replicate 8 none := by
  simp [State.bindingTable, State.reset]

end Sys2Proof.Machine

namespace Sys2Proof.Certificates.Slice0
open Sys2Proof.Machine

/-- Settles O54. -/
theorem resetMeetsEveryInvariant : Obligations.ResetMeetsEveryInvariant := by
  refine ⟨?tags, ?log, fun c => ?events, ?alerts, fun n k _ used => ?clips, ?passes, fun c => ?windows, fun c i j x y hx => ?keys, ?rings⟩
  case tags => exact ⟨Nat.zero_le _, .nil, nofun, .nil, nofun⟩
  case log => exact ⟨rfl, Nat.zero_le _, Nat.le_refl _, nofun, nofun⟩
  case events =>
    rw [State.reset_chan]
    exact ⟨Nat.zero_le _, Nat.zero_le _, .nil⟩
  case alerts => exact ⟨Nat.zero_le _, Nat.zero_le _, .nil, .nil, nofun, fun _ => rfl, nofun⟩
  case clips =>
    rw [State.reset_clip] at used
    exact absurd rfl used
  case passes =>
    simp only [State.oneVerifies, State.reset_clip]
    exact ⟨nofun, .nil, fun n => ⟨nofun, nofun⟩, fun h => absurd rfl h, nofun, nofun, Nat.zero_le _, nofun⟩
  case windows =>
    simp only [State.reset_chan, State.reset_window]
    exact ⟨.nil, fun id => ⟨nofun, nofun⟩, nofun⟩
  case keys =>
    rw [State.reset_bindingTable] at hx
    simp at hx
  case rings => exact ⟨by decide, by decide, by decide, by decide⟩

end Sys2Proof.Certificates.Slice0

namespace Sys2Proof.Machine

open Certificates.Slice0 in
/-- A reset keeps the tags apart, and every other part meets its invariant in its reset state. -/
theorem State.Keeps.resetBlocks {a s : State} (h : a.Keeps s) {phase : BootPhase} {fault : Bool} :
    a.Keeps (s.resetBlocks phase fault) := by
  have answered : a.Keeps s.answerAtReset := foldl (fun _ _ => refl.answer) _ h
  obtain ⟨-, log, events, alerts, clips, passes, windows, keys, rings⟩ := resetMeetsEveryInvariant
  have noReads (x : Txn) (hx : x ∈ s.answerAtReset.bus.txns.filterMap Txn.atReset) : x.owner.verifies = false := by
    obtain ⟨y, -, e⟩ := List.mem_filterMap.1 hx
    exact (Txn.atReset_spec e).2.2
  refine ⟨⟨h.pending, fun k => ?_, fun _ => log, fun c _ => events c, fun _ => alerts, fun _ => windows, fun _ => keys, fun _ => rings⟩,
    fun _ _ => ⟨?_, clips⟩⟩
  · obtain ⟨room, entries, entryTags, txns, txnTags⟩ := answered.tags k
    have ids : (s.answerAtReset.entries.map fun e => { e with treatment := Treatment.pass }).map Entry.id =
        s.answerAtReset.entries.map Entry.id := by
      rw [List.map_map]
      rfl
    refine ⟨by simpa [State.resetBlocks] using room, ids ▸ entries, fun e he => ?_, txns.sublist (map_id_filterMap_atReset _), fun x hx => ?_⟩
    · obtain ⟨e', he', rfl⟩ := List.mem_map.1 he
      exact entryTags e' he'
    · obtain ⟨y, hy, e⟩ := List.mem_filterMap.1 hx
      obtain ⟨id, time, -⟩ := Txn.atReset_spec e
      rw [id, time]
      exact txnTags y hy
  · obtain ⟨one, nodup, queued, waits, -, -, -, -⟩ := passes
    refine ⟨one, nodup, queued, waits, nofun, nofun, ?_, fun ⟨n, hn⟩ => ?_⟩
    · rw [List.filter_eq_nil_iff.2 fun x hx => by rw [noReads x hx]; exact Bool.false_ne_true]
      exact Nat.zero_le _
    · have : (State.reset.clip n).state = .verifying := hn
      rw [State.reset_clip] at this
      cases this

namespace State.Keeps

variable {a s : State}

/-! ## The receiver (chapter 8) -/

theorem abandonMessage (h : a.Keeps s) {why : AbandonReason} : a.Keeps (s.abandonMessage why) := h.mapReceiver

theorem abandonLogged (h : a.Keeps s) {why : AbandonReason} {first second : Nat} : a.Keeps (s.abandonLogged why first second) := by
  unfold State.abandonLogged
  exact mapReceiver (record (h.mapReceiver (f := fun r => { r with counts := r.counts.abandoned why })))

theorem onStartEdge (h : a.Keeps s) {w : Wave} {p : Nat} {f : State → State} (k : s.Keeps (f s)) : a.Keeps (s.onStartEdge w p f) := by
  unfold State.onStartEdge
  split
  · exact h
  split
  · exact h
  · exact h.atTime.abandonMessage
  · exact h.atTime
  · exact h.trans k

theorem takeRateMark (h : a.Keeps s) {w : Wave} : a.Keeps (s.takeRateMark w) := by
  unfold State.takeRateMark
  dsimp only
  split
  · exact h.atTime.abandonMessage
  split
  · exact h.atTime.abandonMessage
  split
  · exact h.atTime.abandonMessage
  split
  · exact h.atTime.abandonMessage
  · exact h.atTime.mapReceiver

theorem rateTimeout (h : a.Keeps s) {w : Wave} : a.Keeps (s.rateTimeout w) := by
  unfold State.rateTimeout
  split
  · exact h.atTime.abandonMessage
  · exact h

theorem messageArrival_level {b : List Byte} {x : Arrival} (h : messageArrival b = some x) : x.level ≤ 3 := by
  unfold messageArrival at h
  dsimp only at h
  split at h
  · cases h
  split at h
  · cases h
    unfold clamp
    dsimp only
    omega
  · cases h

theorem judgeMessage (h : a.Keeps s) : a.Keeps s.judgeMessage := by
  unfold State.judgeMessage
  dsimp only
  split
  · exact h.abandonLogged
  split
  · exact h.abandonLogged
  · next x e => exact arrive h.mapReceiver (messageArrival_level e)

theorem takeBodyByte (h : a.Keeps s) {w : Wave} {p : Nat} : a.Keeps (s.takeBodyByte w p) := by
  unfold State.takeBodyByte State.afterByte
  dsimp only
  split
  · split
    · split
      · exact h.atTime.mapReceiver
      · exact h.atTime.mapReceiver.mapReceiver
    split
    · exact h.atTime.mapReceiver.judgeMessage
    · exact h.atTime.mapReceiver
  · exact h.atTime.abandonMessage

theorem bodyByte (h : a.Keeps s) {w : Wave} : a.Keeps (match s.receiver.period with
      | none => s
      | some p => s.onStartEdge w p fun s => s.takeBodyByte w p) := by
  split
  · exact h
  · exact h.onStartEdge refl.takeBodyByte

theorem idleLimitExpiry (h : a.Keeps s) : a.Keeps (match s.receiver.idlePeriod, s.receiver.idleFrom with
      | some p, some idle => s.idleExpired idle p
      | _, _ => s) := by
  split
  · exact h.atTime.abandonMessage
  · exact h

/-! ## The timers -/

theorem batchTimerExpiry (h : a.Keeps s) : a.Keeps (match s.log.batch with
    | none => s
    | some b => (s.atTime (b.opened + 27000000)).closeBatch) := by
  split
  · exact h
  · exact h.atTime.closeBatch

theorem alertExpiry (h : a.Keeps s) : a.Keeps (match s.alerts.current with
    | none => s
    | some x =>
      match x.state, x.activated, x.duration with
      | .active, some t, some d => (s.atTime (t + d)).expire x
      | _, _, _ => s) := by
  split
  · exact h
  · next current =>
    split
    · exact h.atTime.expire current
    · exact h

end State.Keeps
end Sys2Proof.Machine

namespace Sys2Proof.Machine

/-- The state that a command gives keeps the invariants. -/
def OutcomeKept (s : State) (o : Host.Outcome State Fault Refusal) : Prop :=
  ∀ t, o = .next t → s.Keeps t

theorem kept_next {s t : State} (h : s.Keeps t) : OutcomeKept s (.next t) := by
  intro u e
  cases e
  exact h

theorem State.Keeps.ite {a s t : State} {p : Prop} [Decidable p] (h : a.Keeps s) (k : a.Keeps t) :
    a.Keeps (if p then s else t) := by
  split
  · exact h
  · exact k

open State.Keeps in
/-- Every command keeps every invariant. -/
theorem exec_keeps {i : Instr} {s t : State} (h : exec i s = .next t) : s.Keeps t := by
  revert t
  change OutcomeKept s (exec i s)
  cases i with
  | powerOn => exact kept_next refl.resetBlocks
  | resetArrival => exact kept_next refl.resetBlocks
  | resetRelease => exact kept_next (.ite (refl.trans {}) refl)
  | bootRecordRead record => exact kept_next refl.bootRecordRead
  | bootWordReadsComplete tail head => exact kept_next refl.bootWordReadsComplete
  | upstreamWrite tag addr len data enables =>
    refine kept_next ?_
    split
    · next room => exact refl.accept room rfl
    · exact refl
  | upstreamRead tag addr len => exact kept_next refl.upstreamRead
  | downstreamGrant => exact kept_next (grant _ refl)
  | passedTransactionComplete txn answer =>
    refine kept_next (refl.onResponse fun x routed => ?_)
    split
    · next upstream _ => exact refl.finishUpstream routed upstream
    · next fetch _ => exact refl.fetchDone routed fetch
    · exact refl
  | ringWriteComplete txn => exact kept_next refl.onWriteDone
  | directiveTailWrite txn => exact kept_next refl.onWriteDone
  | responseHeadWrite txn => exact kept_next refl.onWriteDone
  | partialWatchedWrite txn => exact kept_next refl.onWriteDone
  | takeRead channel =>
    refine kept_next ?_
    split
    · exact refl.takeRead
    · exact refl
  | clipCellArrival txn answer =>
    refine kept_next (refl.onResponse fun x routed => ?_)
    split
    · next c n e =>
      have complete := refl.completeTxn routed (by rw [e]; rfl)
      dsimp only
      split
      · exact complete.clipCell
      · exact complete
    · exact refl
  | feedCellArrival txn answer =>
    refine kept_next (refl.onResponse fun x routed => ?_)
    split
    · next c f e =>
      have complete := refl.completeTxn routed (by rw [e]; rfl)
      dsimp only
      split
      · exact complete.feedCell
      · exact complete
    · exact refl
  | directiveFetch => exact kept_next refl.directiveFetch
  | fetchComplete txn answer =>
    refine kept_next (refl.onResponse fun x routed => ?_)
    split
    · next slot e => exact (refl.completeTxn routed (by rw [e]; rfl)).fetched.dispatch
    · exact refl
  | channelSet seq slot fields => exact kept_next (refl.takeDirective fun _ => refl.channelSet)
  | clipLoad seq slot fields => exact kept_next (refl.takeDirective fun _ => refl.clipLoad)
  | clipFree seq slot clip => exact kept_next (refl.takeDirective fun _ => refl.clipFree)
  | bind seq slot fields => exact kept_next (refl.takeDirective fun _ => refl.bind)
  | unbind seq slot channel key => exact kept_next (refl.takeDirective fun _ => refl.unbind)
  | availAbort seq slot channel event => exact kept_next (refl.takeDirective fun _ => refl.availAbort)
  | windowAdd seq slot fields => exact kept_next (refl.takeDirective fun _ => refl.windowAdd)
  | windowDrop seq slot window => exact kept_next (refl.takeDirective fun _ => refl.windowDrop)
  | groupEdit seq slot group mode mask => exact kept_next (refl.takeDirective fun _ => refl.groupEdit)
  | alertSend seq slot fields => exact kept_next (refl.takeDirective fun _ => refl.alertSend)
  | alertClear seq slot flush => exact kept_next (refl.takeDirective fun _ => refl.alertClear)
  | alertMode seq slot mode => exact kept_next (refl.takeDirective fun _ => refl.alertMode)
  | logClose seq slot => exact kept_next (refl.takeDirective fun _ => refl.logClose)
  | logRestart seq slot => exact kept_next (refl.takeDirective fun _ => refl.logRestart)
  | status seq slot scope number dest => exact kept_next (refl.takeDirective fun _ => refl.status)
  | statusWriteComplete txn answer =>
    refine kept_next (refl.onResponse fun x routed => ?_)
    split
    · next e => exact (refl.completeTxn routed (by rw [e]; rfl)).snapshotAnswered
    · exact refl
  | responseEntryWriteComplete txn answer =>
    refine kept_next (refl.onResponse fun x routed => ?_)
    split
    · next e => exact (refl.completeTxn routed (by rw [e]; rfl)).countWriteError.writeTailWord
    · exact refl
  | responseTailWriteComplete txn answer =>
    refine kept_next (refl.onResponse fun x routed => ?_)
    split
    · next e => exact setDir (refl.completeTxn routed (by rw [e]; rfl)).countWriteError fun k => k
    · exact refl
  | verifyReadComplete txn answer =>
    refine kept_next (refl.onResponse fun x routed => ?_)
    split
    · next n e => exact refl.verifyReadComplete routed e
    · exact refl
  | batchTimerExpiry => exact kept_next refl.batchTimerExpiry
  | logRecordWriteComplete txn answer =>
    refine kept_next (refl.onResponse fun x routed => ?_)
    split
    · next e => exact (refl.completeTxn routed (by rw [e]; rfl)).logRecordAnswered
    · exact refl
  | markWriteComplete txn answer =>
    refine kept_next (refl.onResponse fun x routed => ?_)
    split
    · next e => exact (refl.completeTxn routed (by rw [e]; rfl)).logMarkAnswered
    · exact refl
  | attention fall => exact kept_next (.ite refl.atTime.mapReceiver refl)
  | attentionEnd rise => exact kept_next (.ite refl.atTime.mapReceiver refl)
  | rateMark wave => exact kept_next (.ite (refl.onStartEdge refl.takeRateMark) refl)
  | rateTimeout wave => exact kept_next (.ite (refl.onStartEdge refl.rateTimeout) refl)
  | bodyByte wave => exact kept_next (.ite refl.bodyByte refl)
  | idleLimitExpiry => exact kept_next (.ite refl.idleLimitExpiry refl)
  | alertExpiry => exact kept_next refl.alertExpiry

/-- Every step keeps every invariant, none of which speaks of the queue of commands. -/
theorem step_keeps {s t : State} (h : step s = .next t) : ∃ queue, State.Keeps { s with pending := queue } t := by
  unfold step at h
  split at h
  · cases h
    exact ⟨s.pending, .ite .refl {}⟩
  · next c rest _ => exact ⟨rest, exec_keeps h⟩

end Sys2Proof.Machine

namespace Sys2Proof.Certificates.Slice0
open Sys2Proof.Machine

/-- Settles O55. -/
theorem everyStepKeepsTagsApart : Obligations.EveryStepKeepsTagsApart := by
  intro s t apart next
  obtain ⟨queue, kept⟩ := step_keeps next
  exact kept.tags apart

/-- Settles O56. -/
theorem everyStepKeepsTheLogInPlace : Obligations.EveryStepKeepsTheLogInPlace := by
  intro s t place next
  obtain ⟨queue, kept⟩ := step_keeps next
  exact kept.log place

/-- Settles O57. -/
theorem everyStepKeepsEventsApart : Obligations.EveryStepKeepsEventsApart := by
  intro s t apart next c
  obtain ⟨queue, kept⟩ := step_keeps next
  exact kept.events c (apart c)

/-- Settles O58. -/
theorem everyStepKeepsAlertsInOrder : Obligations.EveryStepKeepsAlertsInOrder := by
  intro s t order next
  obtain ⟨queue, kept⟩ := step_keeps next
  exact kept.alerts order

/-- Settles O59. -/
theorem everyStepKeepsTheClipStoreInOrder : Obligations.EveryStepKeepsTheClipStoreInOrder := by
  intro s t tags passes apart next
  obtain ⟨queue, kept⟩ := step_keeps next
  exact kept.clips tags ⟨passes, apart⟩

/-- Settles O60. -/
theorem everyStepKeepsTheTablesInOrder : Obligations.EveryStepKeepsTheTablesInOrder := by
  intro s t windows keys rings next
  obtain ⟨queue, kept⟩ := step_keeps next
  exact ⟨kept.windows windows, kept.keys keys, kept.rings rings⟩

/-- Settles O1. -/
theorem stepRunsTheFrontCommand : Obligations.StepRunsTheFrontCommand := by
  intro s
  have tick (none_ : s.pending = []) : step s = .next s.tick := by
    unfold step
    rw [none_]
  refine ⟨fun c rest h => ?_, fun none_ held => ?_, fun none_ high => ?_⟩
  · unfold step
    rw [h]
  · exact (tick none_).trans (congrArg Host.Outcome.next (if_pos held))
  · exact (tick none_).trans (congrArg Host.Outcome.next (if_neg high))

/-- Every command gives a next state. -/
theorem exec_completes (c : Instr) (s : State) : ∃ t, exec c s = .next t := by
  cases c <;> exact ⟨_, rfl⟩

/-- Settles O2. -/
theorem everyCommandCompletesAndKeepsTheQueue : Obligations.EveryCommandCompletesAndKeepsTheQueue := by
  refine fun c s => ⟨?_, fun directive other => ?_⟩
  · obtain ⟨t, h⟩ := exec_completes c s
    exact ⟨t, h, (exec_keeps h).pending⟩
  · cases c with
    | channelSet | clipLoad | clipFree | bind | unbind | availAbort | windowAdd | windowDrop | groupEdit | alertSend | alertClear
    | alertMode | logClose | logRestart | status => exact congrArg Host.Outcome.next (State.takeDirective_other _ other)
    | _ => cases directive

end Sys2Proof.Certificates.Slice0

namespace Sys2Proof.Machine

/-! ## The boot (R192, R193) -/

theorem State.wordsIssued_of {s : State} (phase : s.boot = .readingWords)
    (tail : ∃ u ∈ s.bus.txns, u.owner = .bootTail ∧ u.issued = true)
    (head : ∃ u ∈ s.bus.txns, u.owner = .bootHead ∧ u.issued = true) : s.wordsIssued = true := by
  simp only [State.wordsIssued, phase, Bool.and_eq_true, List.any_eq_true, beq_iff_eq]
  exact ⟨⟨trivial, tail⟩, head⟩

theorem State.wordsComplete_eq (s : State) : s.wordsComplete =
    { s with bus := { s.bus with txns := s.bus.txns.filter fun u => u.owner ≠ .bootTail ∧ u.owner ≠ .bootHead } } := by
  have same (u : Txn) : (u.owner != .bootTail && u.owner != .bootHead) = decide (u.owner ≠ .bootTail ∧ u.owner ≠ .bootHead) := by
    rw [Bool.eq_iff_iff]
    simp
  simp only [State.wordsComplete, same]

/-- The value that a ring takes of its word at the boot: 64 or more is taken as 0 (R193). -/
def bootWord (v : Nat) : Nat :=
  if v < 64 then v else 0

theorem DirectiveUnit.bootWords_eq (d : DirectiveUnit) (tail head : Nat) : d.bootWords tail head = { d with
    head := bootWord tail
    tail := bootWord tail
    responseHead := bootWord head
    responseTail := bootWord head
    unconsumed := 0
    published := 0
    owed := 0
    ignoredTails := if tail < 64 then d.ignoredTails else sat d.ignoredTails
    ignoredHeads := if head < 64 then d.ignoredHeads else sat d.ignoredHeads } := by
  unfold DirectiveUnit.bootWords DirectiveUnit.bootTail DirectiveUnit.bootHead bootWord
  split <;> split <;> rfl

theorem exec_bootWordReadsComplete_error {s : State} (issued : s.wordsIssued = true) {tail head : Answer}
    (error : tail = .error ∨ head = .error) :
    exec (.bootWordReadsComplete tail head) s = .next s.wordsComplete.bootFault := by
  refine congrArg Host.Outcome.next ((if_pos issued).trans ?_)
  split
  · rcases error with e | e <;> cases e
  · rfl

theorem exec_bootWordReadsComplete_ok {s : State} {x : BootImage} (issued : s.wordsIssued = true) (image : s.image = some x)
    (tail head : List Byte) :
    exec (.bootWordReadsComplete (.ok tail) (.ok head)) s = .next (s.wordsComplete.finishBoot x tail head) := by
  refine congrArg Host.Outcome.next ((if_pos issued).trans ?_)
  rw [image]

/-! ## Answers at a reset (R17) -/

theorem State.answer_entries (s : State) (id : Nat) (r : UpResult) : (s.answer id r).entries = s.entries.filter fun e => e.id != id := by
  rcases s.answer_cases id r with ⟨absent, e⟩ | ⟨_, -, e⟩ <;> rw [e]
  refine (List.filter_eq_self.2 fun e he => ?_).symm
  simpa using List.find?_eq_none.1 absent e he

/-- The entry with a tag is found by it. -/
theorem State.entry_of_mem {s : State} (apart : (s.entries.map Entry.id).Nodup) {e : Entry} (mem : e ∈ s.entries) :
    s.entry e.id = some e := by
  cases found : s.entry e.id with
  | none => simpa using List.find?_eq_none.1 found e mem
  | some e' =>
    have same : e'.id = e.id := by simpa using List.find?_some found
    rw [List.inj_on_of_nodup_map apart (List.mem_of_find?_eq_some found) mem same]

theorem State.answer_of_entry {s : State} {id : Nat} {e : Entry} (h : s.entry id = some e) (r : UpResult) :
    s.answer id r = { s with up := s.up ++ [⟨e.tag, r⟩], entries := s.entries.filter fun y => y.id != id } := by
  rcases s.answer_cases id r with ⟨absent, -⟩ | ⟨e', found, he⟩
  · exact absurd (h.symm.trans absent) (by simp)
  · cases found.symm.trans h
    exact he

/-- Reads answered one after another with what their network fetch returned. -/
def State.answerReads (s : State) (l : List ReadyRead) : State :=
  l.foldl (fun s r => s.answer r.entry (UpResult.ofAnswer r.answer)) s

theorem State.mem_answerReads_entries (l : List ReadyRead) (s : State) (e : Entry) :
    e ∈ (s.answerReads l).entries ↔ e ∈ s.entries ∧ ∀ r ∈ l, r.entry ≠ e.id := by
  induction l generalizing s with
  | nil => simp [State.answerReads]
  | cons r l ih =>
    refine (ih _).trans ?_
    simp [State.answer_entries, and_assoc, @eq_comm _ e.id]

theorem State.answerReads_up (l : List ReadyRead) (s : State) : ∃ more, (s.answerReads l).up = s.up ++ more := by
  induction l generalizing s with
  | nil => exact ⟨[], (List.append_nil _).symm⟩
  | cons r l ih =>
    obtain ⟨more, up⟩ := ih (s.answer r.entry (UpResult.ofAnswer r.answer))
    have first : ∃ one, (s.answer r.entry (UpResult.ofAnswer r.answer)).up = s.up ++ one := by
      rcases s.answer_cases r.entry (UpResult.ofAnswer r.answer) with ⟨-, e⟩ | ⟨e', -, e⟩ <;> rw [e]
      · exact ⟨[], (List.append_nil _).symm⟩
      · exact ⟨_, rfl⟩
    obtain ⟨one, first⟩ := first
    exact ⟨one ++ more, up.trans (by rw [first, List.append_assoc])⟩

/-- Reads of different entries are each answered with their own answer. -/
theorem State.answered_mem_answerReads (l : List ReadyRead) (s : State) (apart : (l.map ReadyRead.entry).Nodup)
    (ids : (s.entries.map Entry.id).Nodup) {r : ReadyRead} (hr : r ∈ l) {e : Entry} (he : e ∈ s.entries) (of : e.id = r.entry) :
    ⟨e.tag, UpResult.ofAnswer r.answer⟩ ∈ (s.answerReads l).up := by
  induction l generalizing s with
  | nil => cases hr
  | cons r' l ih =>
    obtain ⟨notIn, apart⟩ := List.nodup_cons.1 apart
    have rest : s.answerReads (r' :: l) = (s.answer r'.entry (UpResult.ofAnswer r'.answer)).answerReads l := rfl
    rcases List.mem_cons.1 hr with rfl | later
    · obtain ⟨more, up⟩ := State.answerReads_up l (s.answer r.entry (UpResult.ofAnswer r.answer))
      rw [rest, up, State.answer_of_entry (of ▸ State.entry_of_mem ids he)]
      exact List.mem_append_left _ (List.mem_append_right _ (List.mem_singleton.2 rfl))
    · rw [rest]
      refine ih _ apart ?_ later ?_
      · rw [State.answer_entries]
        exact ids.sublist (List.filter_sublist.map _)
      · rw [State.answer_entries, List.mem_filter, bne_iff_ne]
        refine ⟨he, fun same => notIn ?_⟩
        rw [← same, of]
        exact List.mem_map_of_mem later

theorem State.answer_bus (s : State) (id : Nat) (r : UpResult) : (s.answer id r).bus = s.bus := by
  unfold State.answer
  split <;> rfl

theorem State.answerAtReset_eq (s : State) : s.answerAtReset = s.answerReads (s.channels.toList.flatMap Channel.answered) := rfl

theorem State.answerAtReset_bus (s : State) : s.answerAtReset.bus = s.bus :=
  foldl_keeps State.bus (fun (s : State) (r : ReadyRead) => s.answer r.entry (UpResult.ofAnswer r.answer))
    (fun s _ => s.answer_bus ..) _ s

theorem State.mem_answered (s : State) (r : ReadyRead) :
    r ∈ s.channels.toList.flatMap Channel.answered ↔ ∃ c, r ∈ (s.chan c).answered := by
  simp only [List.mem_flatMap, Vector.mem_toList_iff, Vector.mem_iff_getElem]
  constructor
  · rintro ⟨ch, ⟨i, hi, rfl⟩, hr⟩
    exact ⟨⟨i, hi⟩, hr⟩
  · rintro ⟨c, hr⟩
    exact ⟨s.chan c, ⟨c.val, c.isLt, rfl⟩, hr⟩

/-- R17: what becomes of a downstream transaction at a reset. -/
theorem Txn.atReset_eq_some_iff (x y : Txn) : y.atReset = some x ↔
    (y.owner = .upstream ∧ x = y) ∨ (y.owner = .networkFetch ∧ x = { y with owner := .upstream }) ∨
      (y.owner ≠ .upstream ∧ y.owner ≠ .networkFetch ∧ y.issued = true ∧ x = { y with owner := .stale }) := by
  unfold Txn.atReset
  split
  · next h => simp [h, @eq_comm _ x]
  · next h => simp [h, @eq_comm _ x]
  · next upstream fetch =>
    replace upstream : y.owner ≠ .upstream := upstream
    replace fetch : y.owner ≠ .networkFetch := fetch
    split
    · next issued => simp [upstream, fetch, issued, @eq_comm _ x]
    · next notIssued => simp [upstream, fetch, notIssued]

end Sys2Proof.Machine

namespace Sys2Proof.Certificates.Slice0
open Sys2Proof.Machine

/-- Settles O4. -/
theorem bootsBeginAndReadTheirRecord : Obligations.BootsBeginAndReadTheirRecord := by
  refine fun s r => ⟨fun held => ?_, fun high => ?_, fun x reading parsed => ?_, fun reading bad => ?_⟩
  · exact congrArg Host.Outcome.next (if_pos held)
  · exact congrArg Host.Outcome.next (if_neg high)
  · refine congrArg Host.Outcome.next ((if_pos reading).trans ?_)
    rw [parsed]
    rfl
  · refine congrArg Host.Outcome.next ((if_pos reading).trans ?_)
    rw [bad]
    rfl

/-- Settles O6. -/
theorem bootEndsWithReady : Obligations.BootEndsWithReady := by
  intro s x a b phase image tail head
  have issued := State.wordsIssued_of phase tail head
  refine ⟨fun error => ?_, ?_⟩
  · rw [exec_bootWordReadsComplete_error issued error, s.wordsComplete_eq]
    rfl
  · rintro tail head rfl rfl
    refine ⟨_, exec_bootWordReadsComplete_ok issued image tail head, rfl, fun f => ?_, rfl, ?_, ?_⟩
    · exact Vector.getElem_ofFn ..
    · simp only [State.finishBoot, State.putResponse, State.mapDir, DirectiveUnit.bootWords_eq]
      rfl
    · simp only [State.finishBoot, State.putResponse, State.mapDir, DirectiveUnit.bootWords_eq, State.wordsComplete_eq]
      rfl

/-- Settles O3: the reads that a reset answers are folded over the in-flight list one after another. -/
theorem resetPutsEveryBlockInItsResetState : Obligations.ResetPutsEveryBlockInItsResetState := by
  intro s c phase line h
  have next : exec c s = .next (s.resetBlocks phase line) := by
    rcases h with ⟨rfl, rfl, rfl⟩ | ⟨rfl, rfl, rfl⟩ <;> rfl
  refine ⟨_, next, rfl, rfl, (congrArg Bus.next s.answerAtReset_bus : s.answerAtReset.bus.next = _), fun x => ?_, fun e => ?_, ?_, fun reads ids c r hr e he of => ?_⟩
  · simp only [State.resetBlocks, State.answerAtReset_bus, List.mem_filterMap, Txn.atReset_eq_some_iff]
  · simp only [State.resetBlocks, List.mem_map, State.answerAtReset_eq, State.mem_answerReads_entries, State.mem_answered]
    constructor
    · rintro ⟨e', ⟨mem, none_⟩, rfl⟩
      exact ⟨e', mem, fun c r hr => none_ r ⟨c, hr⟩, rfl⟩
    · rintro ⟨e', mem, none_, rfl⟩
      exact ⟨e', ⟨mem, fun r ⟨c, hr⟩ => none_ c r hr⟩, rfl⟩
  · exact s.answerReads_up _
  · exact State.answered_mem_answerReads _ s reads ids ((s.mem_answered r).2 ⟨c, hr⟩) he of

end Sys2Proof.Certificates.Slice0

namespace Sys2Proof.Machine

/-! ## The boot record and its tests (R192, section 11.6) -/

theorem roleMapOf_leFields (r : List Byte) (off : Nat) (i : Fin 6) :
    (roleMapOf (leFields r off 2 6))[i] = pidField (leField r (off + 2 * i) 2) := by
  simp [roleMapOf, leFields]

/-- The queue mode that stands in the record. -/
def bootMode (r : List Byte) : QueueMode :=
  if leField r 462 1 = 0 then .mayEmpty else .holdLast

theorem ofCode_eq_some_iff (v : Nat) (m : QueueMode) : QueueMode.ofCode v = some m ↔ v ≤ 1 ∧ m = if v = 0 then .mayEmpty else .holdLast := by
  match v with
  | 0 => simp [QueueMode.ofCode, @eq_comm _ m]
  | 1 => simp [QueueMode.ofCode, @eq_comm _ m]
  | v + 2 => simp [QueueMode.ofCode]

/-- The image that the loader makes has the values that stand in the record. -/
theorem bootImage_standsIn (r : List Byte) : (bootImage r (bootMode r)).standsIn r := by
  refine ⟨fun c => ?_, fun g => ⟨?_, fun i => ?_⟩, rfl, rfl, rfl, rfl, rfl, rfl, rfl, rfl, rfl, fun g => ?_⟩
  · have place : 8 + 8 * c.val + 5 = 13 + 8 * c.val := by omega
    simp [bootImage, bootMap, bootChannelRing, place]
  · have place : 264 + 20 * g.val + 5 = 269 + 20 * g.val := by omega
    simp [bootImage, bootMap, bootFeedRing, place]
  · have place : 264 + 20 * g.val + 8 = 272 + 20 * g.val := by omega
    have roles : (bootImage r (bootMode r)).feedRoles[g] = bootFeedRoles r g := by simp [bootImage]
    rw [roles, bootFeedRoles, roleMapOf_leFields, place]
    rfl
  · have := leField_lt r (464 + 4 * g.val) 4
    simp [bootImage]
    omega

/-- The values that stand in a record are those of one image. -/
theorem BootImage.standsIn_unique {x y : BootImage} {r : List Byte} (hx : x.standsIn r) (hy : y.standsIn r) : x = y := by
  obtain ⟨⟨rings, feeds, clip, log, directive, response, status⟩, roles, zones, nominal, mode, reserve, groups⟩ := x
  obtain ⟨⟨rings', feeds', clip', log', directive', response', status'⟩, roles', zones', nominal', mode', reserve', groups'⟩ := y
  obtain ⟨xrings, xfeeds, rfl, rfl, rfl, rfl, rfl, rfl, rfl, rfl, rfl, xgroups⟩ := hx
  obtain ⟨yrings, yfeeds, rfl, rfl, rfl, rfl, rfl, rfl, rfl, rfl, rfl, ygroups⟩ := hy
  have hrings : rings = rings' := Vector.ext fun i hi => (xrings ⟨i, hi⟩).trans (yrings ⟨i, hi⟩).symm
  have hfeeds : feeds = feeds' := Vector.ext fun i hi => (xfeeds ⟨i, hi⟩).1.trans (yfeeds ⟨i, hi⟩).1.symm
  have hroles : roles = roles' := Vector.ext fun i hi => Vector.ext fun j hj =>
    ((xfeeds ⟨i, hi⟩).2 ⟨j, hj⟩).trans ((yfeeds ⟨i, hi⟩).2 ⟨j, hj⟩).symm
  have hgroups : groups = groups' := Vector.ext fun i hi =>
    BitVec.eq_of_toNat_eq ((xgroups ⟨i, hi⟩).trans (ygroups ⟨i, hi⟩).symm)
  rw [hrings, hfeeds, hroles, hgroups]

theorem bootChannelsOk_iff (r : List Byte) : bootChannelsOk r = true ↔
    (∀ c : Fin 32, leField r (8 + 8 * c) 5 % 64 = 0) ∧
      ∀ (c : Fin 32) (q : Ring), (bootMap r).channelRings[c] = some q → q.base % 64 = 0 ∧ 256 ≤ q.cells ∧ q.cells ≤ 65536 := by
  have ring (c : Fin 32) : (bootMap r).channelRings[c] = bootChannelRing r c := by simp [bootMap]
  simp only [ring, bootChannelRing, bootChannelsOk, List.all_eq_true, List.mem_range, Bool.and_eq_true, Bool.or_eq_true, beq_iff_eq,
    within_iff]
  constructor
  · refine fun ok => ⟨fun c => (ok c c.isLt).1, fun c q hq => ?_⟩
    obtain ⟨base, cells⟩ := ok c c.isLt
    split at hq
    · cases hq
    · next some_ =>
      cases hq
      exact ⟨base, cells.resolve_left some_⟩
  · refine fun ⟨bases, rings⟩ c hc => ⟨bases ⟨c, hc⟩, ?_⟩
    by_cases none_ : leField r (8 + 8 * c + 5) 3 = 0
    · exact .inl none_
    · exact .inr (rings ⟨c, hc⟩ _ (if_neg none_)).2

theorem bootFeedsOk_iff (r : List Byte) (mode : QueueMode) : bootFeedsOk r = true ↔
    (∀ f : Fin 6, (bootMap r).feedRings[f].base % 64 = 0 ∧ 256 ≤ (bootMap r).feedRings[f].cells ∧
      (bootMap r).feedRings[f].cells ≤ 65536) ∧ ∀ f : Fin 6, (bootImage r mode).feedRoles[f].lawful := by
  have ring (f : Fin 6) : (bootMap r).feedRings[f] = bootFeedRing r f := by simp [bootMap]
  have roles (f : Fin 6) : (bootImage r mode).feedRoles[f] = bootFeedRoles r f := by simp [bootImage]
  simp only [ring, roles, bootFeedsOk, List.all_eq_true, List.mem_range, Bool.and_eq_true, beq_iff_eq, within_iff, RoleMap.valid_iff]
  constructor
  · exact fun ok => ⟨fun f => (ok f f.isLt).1, fun f => (ok f f.isLt).2⟩
  · exact fun ⟨rings, lawful⟩ f hf => ⟨rings ⟨f, hf⟩, lawful ⟨f, hf⟩⟩

theorem RegionMap.shapeOk_iff (m : RegionMap) : m.shapeOk = true ↔
    (m.clipArea.base % 64 = 0 ∧ m.clipArea.size % 64 = 0 ∧ 0 < m.clipArea.size) ∧
    (m.logRegion.base % 4096 = 0 ∧ m.logRegion.size % 4096 = 0 ∧ 4096 ≤ m.logRegion.size ∧ m.logRegion.size ≤ 16777216) ∧
    m.directiveBase % 64 = 0 ∧ m.responseBase % 64 = 0 ∧
    (m.statusArea.base % 64 = 0 ∧ m.statusArea.size % 64 = 0 ∧ 0 < m.statusArea.size) := by
  simp only [RegionMap.shapeOk, Bool.and_eq_true, beq_iff_eq, bne_iff_ne, within_iff, Nat.pos_iff_ne_zero]
  tauto

theorem bootSettingsOk_iff (r : List Byte) : bootSettingsOk r = true ↔
    (1 ≤ leField r 448 1 ∧ leField r 448 1 ≤ 4) ∧ (∀ i < leField r 448 1, leField r (450 + 2 * i) 2 ≤ 0xFFFE) ∧
    (270 ≤ leField r 458 4 ∧ leField r 458 4 ≤ 270000) ∧ (leField r 463 1 ≤ 64 ∨ leField r 463 1 = 0xFF) := by
  simp only [bootSettingsOk, bootZoneCount, Bool.and_eq_true, Bool.or_eq_true, within_iff, List.all_eq_true, decide_eq_true_eq,
    beq_iff_eq, and_assoc]
  refine and_congr_right fun _ => and_congr_right fun few => and_congr_left fun _ => ?_
  have zones : bootZones r = (List.range (leField r 448 1)).map fun i => leField r (450 + 2 * i) 2 := by
    rw [bootZones, leFields, bootZoneCount, ← List.map_take, List.take_range, Nat.min_eq_left few]
  simp [zones]

theorem bootFrameOk_iff (r : List Byte) : bootFrameOk r = true ↔
    leField r 0 4 = 0x31364C42 ∧ leField r 4 2 = 500 ∧ leField r 496 4 = (crc32 (r.take 496)).toNat := by
  simp only [bootFrameOk, Bool.and_eq_true, beq_iff_eq, and_assoc, @eq_comm _ (crc32 (r.take 496)).toNat]

/-- The tests of the loader are those of section 11.6 and of R3 and R33. -/
theorem parseBoot_eq_some_iff (r : List Byte) (x : BootImage) : parseBoot r = some x ↔
    x = bootImage r (bootMode r) ∧ bootFieldsLawful r ∧ (bootMap r).lawful ∧
      ∀ f : Fin 6, (bootImage r (bootMode r)).feedRoles[f].lawful := by
  have tests : (bootFrameOk r && bootChannelsOk r && bootFeedsOk r && (bootMap r).shapeOk && (bootMap r).layoutOk &&
      bootSettingsOk r) = true ∧ leField r 462 1 ≤ 1 ↔ bootFieldsLawful r ∧ (bootMap r).lawful ∧
      ∀ f : Fin 6, (bootImage r (bootMode r)).feedRoles[f].lawful := by
    simp only [Bool.and_eq_true, bootFrameOk_iff, bootChannelsOk_iff, bootFeedsOk_iff r (bootMode r), RegionMap.shapeOk_iff,
      RegionMap.layoutOk_iff, bootSettingsOk_iff, bootFieldsLawful, RegionMap.lawful]
    constructor
    · rintro ⟨⟨⟨⟨⟨⟨⟨magic, length, crc⟩, bases, rings⟩, feeds, roles⟩, clip, log, directive, response, status⟩, inside, apart⟩,
        count, zones, nominal, reserve⟩, mode⟩
      exact ⟨⟨magic, length, crc, bases, count, zones, nominal, mode, reserve⟩,
        ⟨rings, feeds, clip, log, directive, response, status, inside, apart⟩, roles⟩
    · rintro ⟨⟨magic, length, crc, bases, count, zones, nominal, mode, reserve⟩,
        ⟨rings, feeds, clip, log, directive, response, status, inside, apart⟩, roles⟩
      exact ⟨⟨⟨⟨⟨⟨⟨magic, length, crc⟩, bases, rings⟩, feeds, roles⟩, clip, log, directive, response, status⟩, inside, apart⟩,
        count, zones, nominal, reserve⟩, mode⟩
  rw [← tests, parseBoot]
  split
  · next ok =>
    simp only [ok, true_and, Option.map_eq_some_iff, ofCode_eq_some_iff, bootMode]
    constructor
    · rintro ⟨m, ⟨few, rfl⟩, rfl⟩
      exact ⟨rfl, few⟩
    · rintro ⟨rfl, few⟩
      exact ⟨_, ⟨few, rfl⟩, rfl⟩
  · next bad => simp [bad]

end Sys2Proof.Machine

namespace Sys2Proof.Certificates.Slice0
open Sys2Proof.Machine

/-- Settles O5: the loader's image is the one image whose values stand in the record. -/
theorem acceptedBootRecordsLayOutDisjointRegions : Obligations.AcceptedBootRecordsLayOutDisjointRegions := by
  refine ⟨fun r x accepted => ?_, fun r x _ => ?_⟩
  · have layout : (bootMap r).layoutOk = true := by
      unfold parseBoot at accepted
      split at accepted
      · next ok =>
        simp only [Bool.and_eq_true] at ok
        exact ok.1.2
      · cases accepted
    obtain ⟨rfl, -, ⟨channels, feeds, clip, log, directive, response, status, -, -⟩, roles⟩ := (parseBoot_eq_some_iff r x).1 accepted
    simp only [RegionMap.layoutOk, Bool.and_eq_true, List.all_eq_true, decide_eq_true_eq, rangesApart_iff] at layout
    refine ⟨layout.2, layout.1, channels, fun f => ?_, clip, log, directive, response, status⟩
    obtain ⟨base, few, many⟩ := feeds f
    exact ⟨base, few, many, Option.isSome_iff_ne_none.2 (roles f).1⟩
  · rw [parseBoot_eq_some_iff]
    constructor
    · rintro ⟨rfl, fields, map, roles⟩
      exact ⟨bootImage_standsIn r, fields, map, roles⟩
    · rintro ⟨stands, fields, map, roles⟩
      have same : x = bootImage r (bootMode r) := BootImage.standsIn_unique stands (bootImage_standsIn r)
      subst same
      exact ⟨rfl, fields, map, roles⟩

end Sys2Proof.Certificates.Slice0

namespace Sys2Proof.Machine

/-! ## What a write touches (R5) -/

theorem touches_iff (addr : Nat) (enables : List Bool) (base size : Nat) : touches addr enables base size = true ↔
    ∃ b, touchesByte addr enables b ∧ base ≤ b ∧ b < base + size := by
  simp only [touches, slice, List.any_eq_true, List.mem_iff_getElem?, List.getElem?_take, List.getElem?_drop, touchesByte, id]
  constructor
  · rintro ⟨x, ⟨i, hi⟩, rfl⟩
    split at hi
    · refine ⟨addr + (base - addr + i), ⟨by omega, ?_⟩, by omega, by omega⟩
      rwa [Nat.add_sub_cancel_left]
    · cases hi
  · rintro ⟨b, ⟨after, on⟩, low, high⟩
    refine ⟨true, ⟨b - max addr base, ?_⟩, rfl⟩
    rw [if_pos (by omega), ← on]
    congr 1
    omega

theorem touches_span_iff (addr : Nat) (enables : List Bool) (r : Span) : touches addr enables r.base r.size = true ↔
    ∃ b, touchesByte addr enables b ∧ r.has b :=
  touches_iff ..

/-- A write meets the whole of a word when it touches its four bytes (R5). -/
theorem wordTouch_whole_iff (addr : Nat) (enables : List Bool) (word : Nat) : wordTouch addr enables word = .whole ↔
    ∀ k < 4, touchesByte addr enables (word + k) := by
  have four : slice enables (word - addr) 4 = [true, true, true, true] ↔ ∀ k < 4, enables[word - addr + k]? = some true := by
    constructor
    · intro h k hk
      have at_k : (slice enables (word - addr) 4)[k]? = enables[word - addr + k]? := by
        simp [slice, hk]
      rw [← at_k, h]
      match k, hk with
      | 0, _ | 1, _ | 2, _ | 3, _ => rfl
    · intro h
      refine List.ext_getElem? fun k => ?_
      by_cases hk : k < 4
      · rw [slice, List.getElem?_take, if_pos hk, List.getElem?_drop, h k hk]
        match k, hk with
        | 0, _ | 1, _ | 2, _ | 3, _ => rfl
      · rw [slice, List.getElem?_take, if_neg hk]
        exact (List.getElem?_eq_none (by simp; omega)).symm
  have place (after : addr ≤ word) (k : Nat) : word + k - addr = word - addr + k := by omega
  unfold wordTouch
  split
  · next whole =>
    refine ⟨fun _ k hk => ⟨by omega, ?_⟩, fun _ => rfl⟩
    rw [place whole.1]
    exact four.1 whole.2 k hk
  · next notWhole =>
    refine ⟨fun h => ?_, fun h => absurd ?_ notWhole⟩
    · split at h <;> cases h
    · have after : addr ≤ word := (h 0 (by omega)).1
      exact ⟨after, four.2 fun k hk => place after k ▸ (h k hk).2⟩

/-- A write does not meet a word when it touches none of its four bytes. -/
theorem wordTouch_none_iff (addr : Nat) (enables : List Bool) (word : Nat) : wordTouch addr enables word = .none ↔
    ∀ k < 4, ¬ touchesByte addr enables (word + k) := by
  have meets : touches addr enables word 4 = true ↔ ∃ k < 4, touchesByte addr enables (word + k) := by
    rw [touches_iff]
    constructor
    · rintro ⟨b, on, low, high⟩
      exact ⟨b - word, by omega, by rwa [Nat.add_sub_cancel' low]⟩
    · rintro ⟨k, hk, on⟩
      exact ⟨word + k, on, by omega, by omega⟩
  by_cases whole : wordTouch addr enables word = .whole
  · refine ⟨fun h => absurd (whole.symm.trans h) (by decide), fun h => ?_⟩
    exact absurd ((wordTouch_whole_iff ..).1 whole 0 (by omega)) (h 0 (by omega))
  · unfold wordTouch at whole ⊢
    split
    · next t => exact absurd (if_pos t) whole
    · split
      · next some_ =>
        obtain ⟨k, hk, on⟩ := meets.1 some_
        exact ⟨nofun, fun h => absurd on (h k hk)⟩
      · next none_ => exact ⟨fun _ k hk on => none_ (meets.2 ⟨k, hk, on⟩), fun _ => rfl⟩

theorem RegionMap.mem_rings (m : RegionMap) (r : Ring) :
    r ∈ m.rings ↔ (∃ c : Fin 32, m.channelRings[c] = some r) ∨ ∃ f : Fin 6, m.feedRings[f] = r := by
  simp only [RegionMap.rings, List.mem_append, List.mem_filterMap, Vector.mem_toList_iff, Vector.mem_iff_getElem, id]
  refine or_congr ⟨?_, ?_⟩ ⟨?_, ?_⟩
  · rintro ⟨o, ⟨i, hi, rfl⟩, h⟩
    exact ⟨⟨i, hi⟩, h⟩
  · rintro ⟨c, h⟩
    exact ⟨_, ⟨c.val, c.isLt, rfl⟩, h⟩
  · rintro ⟨i, hi, h⟩
    exact ⟨⟨i, hi⟩, h⟩
  · rintro ⟨f, h⟩
    exact ⟨f.val, f.isLt, h⟩

theorem RegionMap.touches_rings_iff (m : RegionMap) (addr : Nat) (enables : List Bool) :
    (m.rings.any fun r => touches addr enables r.base (192 * r.cells)) = true ↔ ∃ b, touchesByte addr enables b ∧ m.ringHas b := by
  simp only [List.any_eq_true, RegionMap.mem_rings, touches_iff, RegionMap.ringHas, Ring.has]
  constructor
  · rintro ⟨r, ⟨c, hc⟩ | ⟨f, rfl⟩, b, on, inside⟩
    · exact ⟨b, on, .inl ⟨c, r, hc, inside⟩⟩
    · exact ⟨b, on, .inr ⟨f, inside⟩⟩
  · rintro ⟨b, on, ⟨c, r, hc, inside⟩ | ⟨f, inside⟩⟩
    · exact ⟨r, .inl ⟨c, hc⟩, b, on, inside⟩
    · exact ⟨_, .inr ⟨f, rfl⟩, b, on, inside⟩

theorem RegionMap.touches_fixedProtected_iff (m : RegionMap) (addr : Nat) (enables : List Bool) :
    (m.fixedProtected.any fun r => touches addr enables r.base r.size) = true ↔
      ∃ b, touchesByte addr enables b ∧ m.alwaysProtects b := by
  simp only [RegionMap.fixedProtected, List.any_cons, List.any_nil, Bool.or_false, Bool.or_eq_true, touches_iff,
    RegionMap.alwaysProtects, Span.has, ← exists_or, ← and_or_left]

theorem RegionMap.writeTreatment_protectCheck_iff (m : RegionMap) (addr : Nat) (enables : List Bool) :
    (m.writeTreatment addr enables).protectCheck = true ↔
      ∃ b, touchesByte addr enables b ∧ (m.clipArea.has b ∨ m.alwaysProtects b) := by
  simp only [RegionMap.writeTreatment, List.any_cons, Bool.or_eq_true, touches_span_iff, m.touches_fixedProtected_iff, ← exists_or,
    ← and_or_left]

/-! ## Reads (R10, R11) -/

theorem Ring.cellBase_iff (r : Ring) (addr : Nat) : r.cellBase addr = true ↔ ∃ i, i < r.cells ∧ addr = r.base + 192 * i := by
  simp only [Ring.cellBase, Bool.and_eq_true, decide_eq_true_eq]
  constructor
  · rintro ⟨⟨low, aligned⟩, few⟩
    exact ⟨_, few, by omega⟩
  · rintro ⟨i, few, rfl⟩
    omega

/-- The read is one of a whole cell of the enabled channel's ring (R10). -/
def State.isEligible (s : State) (addr len : Nat) (c : Fin 32) : Prop :=
  len = 192 ∧ (s.chan c).state ≠ .off ∧ ∃ r i, s.channelRing c = some r ∧ i < r.cells ∧ addr = r.base + 192 * i

theorem State.eligibleFor_cases (s : State) (addr len : Nat) :
    (∃ c, s.isEligible addr len c ∧ s.eligibleFor addr len = some c) ∨
      ((∀ c, ¬ s.isEligible addr len c) ∧ s.eligibleFor addr len = none) := by
  have test (c : Fin 32) : (decide (len = 192) && (s.channelRing c).any (fun r => r.cellBase addr) && (s.chan c).enabled) = true ↔
      s.isEligible addr len c := by
    simp only [State.isEligible, Bool.and_eq_true, decide_eq_true_eq, Option.any_eq_true, Ring.cellBase_iff, Channel.enabled_iff]
    constructor
    · rintro ⟨⟨size, r, ring, i, few, place⟩, on⟩
      exact ⟨size, on, r, i, ring, few, place⟩
    · rintro ⟨size, on, r, i, ring, few, place⟩
      exact ⟨⟨size, r, ring, i, few, place⟩, on⟩
  unfold State.eligibleFor
  cases found : (List.finRange 32).find? _ with
  | some c =>
    have ok := List.find?_some found
    exact .inl ⟨c, (test c).1 ok, rfl⟩
  | none => exact .inr ⟨fun c h => List.find?_eq_none.1 found c (List.mem_finRange c) ((test c).2 h), rfl⟩

/-- The same done for each of several channels: each has what it has when it is done for that channel alone. -/
theorem State.foldl_chan {f : State → Fin 32 → State} (other : ∀ s c d, c ≠ d → (f s d).chan c = s.chan c)
    (own : ∀ s c d, c ≠ d → (f (f s d) c).chan c = (f s c).chan c) (l : List (Fin 32)) (apart : l.Nodup) (s : State) (c : Fin 32) :
    (l.foldl f s).chan c = if c ∈ l then (f s c).chan c else s.chan c := by
  induction l generalizing s with
  | nil => rfl
  | cons d l ih =>
    obtain ⟨notIn, apart⟩ := List.nodup_cons.1 apart
    rw [List.foldl_cons, ih apart]
    by_cases e : c = d
    · subst e
      simp [notIn]
    · simp [e, other s c d e, own s c d e]

/-- The passed read is counted by the channel (R10). -/
def State.misaligns (s : State) (addr len : Nat) (c : Fin 32) : Bool :=
  (s.chan c).state != .off && (s.chan c).state != .network &&
    (s.channelRing c).any fun r => rangesMeet addr len r.base (192 * r.cells)

/-- One channel counts the passed read, if it does. -/
def State.countMisalignedAt (addr len : Nat) (s : State) (c : Fin 32) : State :=
  if s.misaligns addr len c then s.mapChan c fun ch => { ch with counts := { ch.counts with misaligned := sat ch.counts.misaligned } }
  else s

theorem State.countMisaligned_eq (s : State) (addr len : Nat) :
    s.countMisaligned addr len = (List.finRange 32).foldl (State.countMisalignedAt addr len) s := rfl

theorem State.misaligns_iff (s : State) (addr len : Nat) (c : Fin 32) : s.misaligns addr len c = true ↔
    (s.chan c).state ≠ .off ∧ (s.chan c).state ≠ .network ∧
      ∃ r b, s.channelRing c = some r ∧ r.has b ∧ addr ≤ b ∧ b < addr + len := by
  have meets (r : Ring) : rangesMeet addr len r.base (192 * r.cells) = true ↔ ∃ b, r.has b ∧ addr ≤ b ∧ b < addr + len :=
    (rangesMeet_iff ⟨addr, len⟩ r.span).trans (exists_congr fun _ => and_comm)
  simp only [State.misaligns, Bool.and_eq_true, bne_iff_ne, Option.any_eq_true, meets, and_assoc, ← exists_and_left]

theorem State.countMisalignedAt_self (s : State) (addr len : Nat) (c : Fin 32) : (s.countMisalignedAt addr len c).chan c =
    if s.misaligns addr len c then { s.chan c with counts := { (s.chan c).counts with misaligned := sat (s.chan c).counts.misaligned } }
    else s.chan c := by
  unfold State.countMisalignedAt
  split
  · exact State.chan_mapChan_self ..
  · rfl

theorem State.countMisalignedAt_other (s : State) (addr len : Nat) {c d : Fin 32} (ne : c ≠ d) :
    (s.countMisalignedAt addr len d).chan c = s.chan c := by
  unfold State.countMisalignedAt
  split
  · exact State.chan_mapChan_ne _ _ ne
  · rfl

theorem State.countMisalignedAt_misaligns (s : State) (addr len : Nat) {c d : Fin 32} (ne : c ≠ d) :
    (s.countMisalignedAt addr len d).misaligns addr len c = s.misaligns addr len c := by
  have ring : (s.countMisalignedAt addr len d).channelRing c = s.channelRing c := by
    unfold State.countMisalignedAt
    split <;> rfl
  simp only [State.misaligns, s.countMisalignedAt_other addr len ne, ring]

theorem State.countMisaligned_chan (s : State) (addr len : Nat) (c : Fin 32) :
    (s.countMisaligned addr len).chan c = (s.countMisalignedAt addr len c).chan c := by
  rw [State.countMisaligned_eq, State.foldl_chan (fun s c d ne => s.countMisalignedAt_other addr len ne) ?_ _ (List.nodup_finRange 32),
    if_pos (List.mem_finRange c)]
  intro s c d ne
  rw [State.countMisalignedAt_self, State.countMisalignedAt_self, s.countMisalignedAt_misaligns addr len ne,
    s.countMisalignedAt_other addr len ne]

theorem State.countMisaligned_frame (s : State) (addr len : Nat) :
    s.countMisaligned addr len = { s with channels := (s.countMisaligned addr len).channels } := by
  unfold State.countMisaligned
  induction List.finRange 32 generalizing s with
  | nil => rfl
  | cons c l ih =>
    rw [List.foldl_cons, ih]
    split <;> rfl

@[simp] theorem State.accept_chan (s : State) (write : Bool) (tag addr len : Nat) (data : List Byte) (enables : List Bool)
    (t : Treatment) (owner : Owner) (c : Fin 32) : (s.accept write tag addr len data enables t owner).chan c = s.chan c := rfl

/-- A read that is passed is accepted as what its counting leaves it. -/
theorem State.accept_passed {s t : State} (frame : t = { s with channels := t.channels }) (tag addr len : Nat) :
    t.accept false tag addr len [] [] Treatment.pass .upstream = { s with
      entries := s.entries ++ [⟨s.bus.next, false, tag, addr, len, Treatment.pass⟩]
      bus := s.bus.request 1 false addr len [] [] .upstream
      channels := (t.accept false tag addr len [] [] Treatment.pass .upstream).channels } := by
  rw [frame]
  rfl

end Sys2Proof.Machine

namespace Sys2Proof.Certificates.Slice0
open Sys2Proof.Machine

/-- Settles O7. -/
theorem upstreamWritesAreClassified : Obligations.UpstreamWritesAreClassified := by
  intro s tag addr len data enables
  refine ⟨fun full => ?_, fun room => ?_⟩
  · exact congrArg Host.Outcome.next (if_neg (by simp [State.hasRoom, full]))
  · refine ⟨⟨s.bus.next, true, tag, addr, len, s.writeTreatment addr enables⟩, _,
      congrArg Host.Outcome.next (if_pos (by simp [State.hasRoom, room])), rfl, rfl, rfl, rfl, rfl, rfl, fun none_ => ?_, fun m some_ => ?_⟩
    · simp [State.writeTreatment, none_]
    · have treatment : s.writeTreatment addr enables = m.writeTreatment addr enables := by simp [State.writeTreatment, some_]
      rw [treatment]
      exact ⟨m.writeTreatment_protectCheck_iff .., m.touches_rings_iff .., wordTouch_whole_iff .., wordTouch_none_iff ..,
        wordTouch_whole_iff .., wordTouch_none_iff .., rfl⟩

/-- Settles O8. -/
theorem upstreamReadsAreClassified : Obligations.UpstreamReadsAreClassified := by
  intro s tag addr len
  refine ⟨fun full => ?_, fun room => ?_⟩
  · exact congrArg Host.Outcome.next (if_neg (by simp [State.hasRoom, full]))
  · refine ⟨_, congrArg Host.Outcome.next (if_pos (by simp [State.hasRoom, room])), ?_⟩
    rcases s.eligibleFor_cases addr len with ⟨c, eligible, e⟩ | ⟨none_, e⟩ <;> simp only [e]
    · exact .inl ⟨c, eligible, rfl⟩
    · have counted (c : Fin 32) := (s.countMisaligned_chan addr len c).trans (s.countMisalignedAt_self addr len c)
      refine .inr ⟨none_, State.accept_passed (s.countMisaligned_frame addr len) .., fun c => ?_⟩
      rw [State.accept_chan, counted]
      refine ⟨fun on away meets => if_pos ((s.misaligns_iff addr len c).2 ⟨on, away, meets⟩), fun not => if_neg fun counts => ?_⟩
      obtain ⟨on, away, meets⟩ := (s.misaligns_iff addr len c).1 counts
      rcases not with off | network | apart
      · exact on off
      · exact away network
      · exact apart meets

end Sys2Proof.Certificates.Slice0

namespace Sys2Proof.Machine

/-! ## The arbiter's choice (R13, R14) -/

theorem Txn.overlaps_iff (x y : Txn) : x.overlaps y = true ↔ x.clash y := by
  have meets := rangesMeet_iff ⟨x.addr, x.len⟩ ⟨y.addr, y.len⟩
  simp only [Txn.overlaps, Txn.clash, Bool.and_eq_true, Bool.or_eq_true, meets, Span.has, and_assoc]

theorem Bus.mem_candidates (b : Bus) (x : Txn) : x ∈ b.txns.filter b.candidate ↔ b.isCandidate x := by
  simp only [List.mem_filter, Bus.candidate, Bus.isCandidate, Bool.and_eq_true, Bool.not_eq_true', ← Bool.not_eq_true, List.any_eq_true,
    decide_eq_true_eq, Txn.overlaps_iff, not_exists, not_and]

theorem Bus.mem_firstCandidates (b : Bus) (x : Txn) : x ∈ b.firstCandidates ↔
    b.isCandidate x ∧ (∀ u, b.isCandidate u → x.cls ≤ u.cls) ∧
      ∀ u, b.isCandidate u → (∀ v, b.isCandidate v → u.cls ≤ v.cls) → x.time ≤ u.time := by
  simp only [Bus.firstCandidates, List.mem_filter, List.all_eq_true, decide_eq_true_eq, ← b.mem_candidates, and_assoc, and_imp]

/-- The one transaction that the arbiter turns to stands alone among the first candidates. -/
theorem Bus.firstCandidates_eq {b : Bus} (apart : (b.txns.map Txn.id).Nodup) {x : Txn} (turns : b.turnsTo x) : b.firstCandidates = [x] := by
  obtain ⟨candidate, first⟩ := turns
  have highest (u : Txn) (hu : b.isCandidate u) : x.cls ≤ u.cls := by
    rcases first u hu with rfl | lower | ⟨same, -⟩ <;> omega
  have mem : x ∈ b.firstCandidates := by
    refine (b.mem_firstCandidates x).2 ⟨candidate, highest, fun u hu top => ?_⟩
    have := top x candidate
    rcases first u hu with rfl | lower | ⟨-, earlier⟩ <;> omega
  have only (u : Txn) (hu : u ∈ b.firstCandidates) : u = x := by
    obtain ⟨hc, top, earliest⟩ := (b.mem_firstCandidates u).1 hu
    have := top x candidate
    have := earliest x candidate highest
    rcases first u hc with same | lower | ⟨-, earlier⟩
    · exact same
    · omega
    · omega
  have nodup : b.firstCandidates.Nodup := by
    have all : b.txns.Nodup := List.Nodup.of_map _ apart
    exact ((all.filter _).filter _).filter _
  match e : b.firstCandidates, mem, only, nodup with
  | [u], _, only, _ => rw [only u (List.mem_singleton.2 rfl)]
  | u :: v :: l, _, only, nodup =>
    have hu := only u (List.mem_cons_self ..)
    have hv := only v (.tail _ (List.mem_cons_self ..))
    rw [hu, hv] at nodup
    simp at nodup

theorem Bus.choose_of_turnsTo {b : Bus} (apart : (b.txns.map Txn.id).Nodup) {x : Txn} (turns : b.turnsTo x) : b.choose = (some x, b) := by
  unfold Bus.choose
  rw [Bus.firstCandidates_eq apart turns]

theorem Bus.choose_of_none {b : Bus} (none_ : ∀ x, ¬ b.isCandidate x) : b.choose = (none, b) := by
  have : b.firstCandidates = [] :=
    List.eq_nil_iff_forall_not_mem.2 fun x hx => none_ x ((b.mem_firstCandidates x).1 hx).1
  unfold Bus.choose
  rw [this]

/-! ## Refusal (R4, R6, R63) -/

theorem State.touchesProtected_iff (s : State) (x : Txn) : s.touchesProtected x = true ↔
    ∃ b, touchesByte x.addr x.enables b ∧ s.protects b := by
  have clip (n : Fin 64) : ((s.clip n).guarded && touches x.addr x.enables (s.clip n).base (192 * (s.clip n).cells)) = true ↔
      ((s.clip n).state = .queued ∨ (s.clip n).state = .verifying ∨ (s.clip n).state = .ready) ∧
        ∃ b, touchesByte x.addr x.enables b ∧ (s.clip n).has b := by
    simp only [Clip.guarded, Bool.and_eq_true, Bool.or_eq_true, beq_iff_eq, touches_iff, Clip.has, or_assoc]
  simp only [State.touchesProtected, Bool.or_eq_true, List.any_eq_true, List.mem_finRange, true_and, clip, State.protects]
  constructor
  · rintro (fixed | ⟨n, guarded, b, on, within⟩)
    · split at fixed
      · next m map =>
        obtain ⟨b, on, within⟩ := (m.touches_fixedProtected_iff ..).1 fixed
        exact ⟨b, on, .inl ⟨m, map, within⟩⟩
      · cases fixed
    · exact ⟨b, on, .inr ⟨n, guarded, within⟩⟩
  · rintro ⟨b, on, ⟨m, map, within⟩ | ⟨n, guarded, within⟩⟩
    · refine .inl ?_
      rw [map]
      exact (m.touches_fixedProtected_iff ..).2 ⟨b, on, within⟩
    · exact .inr ⟨n, guarded, b, on, within⟩

theorem State.refuses_iff {s : State} (apart : (s.entries.map Entry.id).Nodup) (x : Txn) : s.refuses x = true ↔
    x.owner = .upstream ∧ (∃ e ∈ s.entries, e.id = x.id ∧ e.treatment.protectCheck = true) ∧
      ∃ b, touchesByte x.addr x.enables b ∧ s.protects b := by
  have entry : (s.entry x.id).any (fun e => e.treatment.protectCheck) = true ↔
      ∃ e ∈ s.entries, e.id = x.id ∧ e.treatment.protectCheck = true := by
    rw [Option.any_eq_true]
    constructor
    · rintro ⟨e, found, checked⟩
      have id := List.find?_some found
      exact ⟨e, List.mem_of_find?_eq_some found, by simpa using id, checked⟩
    · rintro ⟨e, mem, id, checked⟩
      exact ⟨e, id ▸ State.entry_of_mem apart mem, checked⟩
  simp only [State.refuses, Bool.and_eq_true, beq_iff_eq, entry, s.touchesProtected_iff, and_assoc]

/-! ## A grant (R6, R14) -/

/-- One turn of a grant. -/
theorem State.grant_of_choose {s : State} {x : Txn} (k : Nat) (chosen : s.bus.choose = (some x, s.bus)) : State.grant (k + 1) s =
    if s.refuses x then State.grant k (s.refuseWrite x) else { s with bus := s.bus.issue x.id } := by
  rw [State.grant, chosen]

/-- What the refusals of one grant make of the state; between them only the free choices among candidates of one time go on. -/
inductive State.Refusing (s : State) : State → Prop where
  | refl : State.Refusing s s
  | choice {t : State} (h : State.Refusing s t) : State.Refusing s { t with bus := t.bus.choose.2 }
  | refuse {t : State} (h : State.Refusing s t) {x : Txn} (mem : x ∈ t.bus.txns) (refused : t.refuses x = true) :
      State.Refusing s (t.refuseWrite x)

theorem State.Refusing.trans {s t u : State} (h : s.Refusing t) (k : t.Refusing u) : s.Refusing u := by
  induction k with
  | refl => exact h
  | choice _ ih => exact ih.choice
  | refuse _ mem refused ih => exact ih.refuse mem refused

/-- A grant refuses writes, and then issues at most one transaction, which is not refused. -/
theorem State.grant_spec (k : Nat) (s : State) : ∃ t, s.Refusing t ∧
    (State.grant k s = t ∨ ∃ x ∈ t.bus.txns, t.refuses x = false ∧ State.grant k s = { t with bus := t.bus.issue x.id }) := by
  induction k generalizing s with
  | zero => exact ⟨s, .refl, .inl rfl⟩
  | succ k ih =>
    rw [State.grant]
    dsimp only
    split
    · exact ⟨_, .choice .refl, .inl rfl⟩
    · next x chosen =>
      have mem : x ∈ s.bus.choose.2.txns := by
        rw [Keeps.choose_txns]
        exact Keeps.choose_mem chosen
      split
      · next refused =>
        obtain ⟨t, refusing, rest⟩ := ih (({ s with bus := s.bus.choose.2 } : State).refuseWrite x)
        exact ⟨t, .trans (.refuse (.choice .refl) mem refused) refusing, rest⟩
      · next notRefused => exact ⟨_, .choice .refl, .inr ⟨x, mem, by simpa using notRefused, rfl⟩⟩

/-! ## What a record asks of the arbiter -/

/-- What `f` makes of the log, and what it asks of the arbiter, none of it an upstream transaction and all with new tags, depend on
the next tag alone. -/
def Asks (f : Bus → LogWriter × Bus) : Prop :=
  ∀ next, ∃ (l : LogWriter) (more : List Txn), (∀ y ∈ more, y.owner ≠ .upstream ∧ next ≤ y.id) ∧
    ∀ b : Bus, b.next = next → f b = (l, { b with txns := b.txns ++ more, next := next + more.length })

theorem asks_nothing (l : LogWriter) : Asks fun b => (l, b) := by
  refine fun next => ⟨l, [], nofun, fun b hb => ?_⟩
  subst hb
  simp

theorem asks_write {f : LogWriter → Bus → LogWriter × Bus} {l : LogWriter} (h : Asks (f l)) (addr : Nat) (data : List Byte)
    {owner : Owner} (other : owner ≠ .upstream) : Asks fun b => f l (b.write addr data owner) := by
  intro next
  obtain ⟨l', more, owners, rest⟩ := h (next + 1)
  refine ⟨l', ⟨next, next, 2, true, addr, data.length, data, List.replicate data.length true, owner, false⟩ :: more, ?_, fun b hb => ?_⟩
  · intro y hy
    rcases List.mem_cons.1 hy with rfl | later
    · exact ⟨other, Nat.le_refl _⟩
    · obtain ⟨owner', new⟩ := owners y later
      exact ⟨owner', (Nat.le_succ _).trans new⟩
  · subst hb
    dsimp only
    rw [rest (b.write addr data owner) rfl]
    simp [Bus.write, Bus.request, Nat.add_assoc, Nat.add_comm 1]

theorem LogWriter.asks_close (l : LogWriter) : Asks l.close := by
  unfold LogWriter.close LogWriter.requestMark
  split
  · exact asks_nothing l
  · dsimp only
    split
    · exact asks_write (f := fun l b => (l, b)) (asks_nothing _) _ _ (by simp)
    · exact asks_nothing _

theorem LogWriter.asks_take (l : LogWriter) (house : Nat) (r : Record) : Asks fun b => l.take b house r := by
  have append : Asks fun b => l.append b house r := by
    simp only [LogWriter.append]
    split
    · exact asks_write (f := LogWriter.close) (LogWriter.asks_close _) _ _ (by simp)
    · exact asks_write (f := fun l b => (l, b)) (asks_nothing _) _ _ (by simp)
  unfold LogWriter.take
  split
  · split
    · exact append
    · intro next
      obtain ⟨l', more, owners, rest⟩ := l.withhold.asks_close next
      refine ⟨{ l' with state := .full }, more, owners, fun b hb => ?_⟩
      dsimp only
      rw [rest b hb]
  · exact asks_nothing _
  · exact asks_nothing _

/-- A record handed over in two states of one house time, log and next tag: the same log and the same requests. -/
theorem State.record_asks {s t : State} (r : Record) (log : t.log = s.log) (house : t.house = s.house) (boot : t.boot = s.boot)
    (next : t.bus.next = s.bus.next) : (t.record r).log = (s.record r).log ∧
      ∃ more : List Txn, (∀ y ∈ more, y.owner ≠ .upstream ∧ s.bus.next ≤ y.id) ∧
      (s.record r).bus = { s.bus with txns := s.bus.txns ++ more, next := s.bus.next + more.length } ∧
      (t.record r).bus = { t.bus with txns := t.bus.txns ++ more, next := s.bus.next + more.length } := by
  rw [State.record_log, State.record_log, State.record_bus, State.record_bus, boot]
  split
  · obtain ⟨l, more, owners, rest⟩ := s.log.asks_take s.house r s.bus.next
    dsimp only at rest
    rw [log, house, rest _ rfl, rest _ next]
    exact ⟨rfl, more, owners, rfl, rfl⟩
  · refine ⟨log, [], nofun, ?_, ?_⟩
    · simp
    · simp [← next]

/-! ## One refusal -/

/-- The record of a refusal. -/
def Txn.refusal (x : Txn) : Record :=
  ⟨.writeRefused, 255, 0, x.addr % 2 ^ 32, x.addr / 2 ^ 32, x.len⟩

theorem State.refuseWrite_eq (s : State) (x : Txn) : s.refuseWrite x =
    { ((s.completeTxn x.id).answer x.id .refused).recordRefusal x with refusedWrites := sat s.refusedWrites } := by
  have kept : (((s.completeTxn x.id).answer x.id .refused).recordRefusal x).refusedWrites = s.refusedWrites := by
    have answered : ((s.completeTxn x.id).answer x.id .refused).refusedWrites = s.refusedWrites := by
      rcases (s.completeTxn x.id).answer_cases x.id .refused with ⟨-, e⟩ | ⟨_, -, e⟩ <;> rw [e] <;> rfl
    unfold State.recordRefusal
    split
    · exact answered
    · exact answered
  rw [State.refuseWrite]
  dsimp only
  rw [kept]

/-- A refusal leaves what it does not name. -/
theorem State.refuseWrite_frame (s : State) (x : Txn) : (s.refuseWrite x).map = s.map ∧ (s.refuseWrite x).clips = s.clips ∧
    (s.refuseWrite x).entries = s.entries.filter (fun e => e.id != x.id) ∧
    (s.refuseWrite x).refusedWrites = sat s.refusedWrites ∧
    (∀ e, s.entry x.id = some e → (s.refuseWrite x).up = s.up ++ [⟨e.tag, .refused⟩]) ∧
    ∃ more, (s.refuseWrite x).up = s.up ++ more := by
  have record (t : State) : (t.recordRefusal x).map = t.map ∧ (t.recordRefusal x).clips = t.clips ∧
      (t.recordRefusal x).entries = t.entries ∧ (t.recordRefusal x).up = t.up := by
    unfold State.recordRefusal
    split <;> exact ⟨rfl, rfl, rfl, rfl⟩
  obtain ⟨map, clips, entries, up⟩ := record ((s.completeTxn x.id).answer x.id .refused)
  have entries' : (s.refuseWrite x).entries = s.entries.filter fun e => e.id != x.id :=
    entries.trans (State.answer_entries ..)
  rw [s.refuseWrite_eq x] at entries' ⊢
  dsimp only at entries' ⊢
  rw [map, clips, entries', up]
  rcases (s.completeTxn x.id).answer_cases x.id .refused with ⟨absent, e⟩ | ⟨e', found, e⟩ <;> rw [e]
  · refine ⟨rfl, rfl, rfl, rfl, fun y hy => ?_, [], (List.append_nil _).symm⟩
    exact absurd (hy.symm.trans absent) (by simp)
  · refine ⟨rfl, rfl, rfl, rfl, fun y hy => ?_, _, rfl⟩
    cases hy.symm.trans found
    rfl

/-- R7: the record of a refusal, made when the count stood at 0. -/
theorem State.refuseWrite_asks (s : State) (x : Txn) : ∃ more : List Txn, (∀ y ∈ more, y.owner ≠ .upstream ∧ s.bus.next ≤ y.id) ∧
    (s.refuseWrite x).bus =
      { s.bus with txns := s.bus.txns.filter (fun y => y.id != x.id) ++ more, next := s.bus.next + more.length } ∧
    (s.refusedWrites ≠ 0 → more = [] ∧ (s.refuseWrite x).log = s.log) ∧
    (s.refusedWrites = 0 → (s.refuseWrite x).log = (s.record x.refusal).log ∧
      (s.record x.refusal).bus = { s.bus with txns := s.bus.txns ++ more, next := s.bus.next + more.length }) := by
  obtain ⟨t, ht, log, house, boot, bus, count⟩ : ∃ t, (s.completeTxn x.id).answer x.id .refused = t ∧ t.log = s.log ∧
      t.house = s.house ∧ t.boot = s.boot ∧ t.bus = (s.completeTxn x.id).bus ∧ t.refusedWrites = s.refusedWrites := by
    refine ⟨_, rfl, ?_⟩
    rcases (s.completeTxn x.id).answer_cases x.id .refused with ⟨-, e⟩ | ⟨_, -, e⟩ <;> rw [e] <;> exact ⟨rfl, rfl, rfl, rfl, rfl⟩
  rw [s.refuseWrite_eq x, ht]
  dsimp only
  obtain ⟨sameLog, more, owners, here, there⟩ := State.record_asks x.refusal log house boot (by rw [bus]; rfl)
  unfold State.recordRefusal
  rw [count]
  by_cases first : s.refusedWrites = 0
  · rw [if_pos first]
    refine ⟨more, owners, ?_, fun h => absurd first h, fun _ => ⟨sameLog, here⟩⟩
    exact there.trans (by rw [bus]; rfl)
  · rw [if_neg first]
    refine ⟨[], nofun, ?_, fun _ => ⟨rfl, log⟩, fun h => absurd h first⟩
    rw [bus]
    simp [State.completeTxn, Bus.complete]

/-- The refusal of one write does not change whether another is refused. -/
theorem State.refuses_refuseWrite (s : State) {x y : Txn} (ne : y.id ≠ x.id) : (s.refuseWrite x).refuses y = s.refuses y := by
  obtain ⟨map, clips, entries, -⟩ := s.refuseWrite_frame x
  have entry : (s.refuseWrite x).entry y.id = s.entry y.id := by
    rw [State.entry, entries, State.entry, List.find?_filter]
    congr 1
    funext e
    by_cases same : e.id = y.id
    · simp [same, ne]
    · simp [same]
  have protected_ : (s.refuseWrite x).touchesProtected y = s.touchesProtected y := by
    simp only [State.touchesProtected, map, State.clip, clips]
  rw [State.refuses, entry, protected_, State.refuses]

theorem State.refuses_upstream {s : State} {x : Txn} (h : s.refuses x = true) : x.owner = .upstream := by
  simp only [State.refuses, Bool.and_eq_true, beq_iff_eq] at h
  exact h.1.1

/-! ## The refusals of a grant -/

namespace State.Refusing

variable {s t : State}

theorem keeps (h : s.Refusing t) : s.Keeps t := by
  induction h with
  | refl => exact .refl
  | choice _ ih => exact ih.choose
  | refuse _ mem refused ih => exact ih.refuseWrite mem refused

theorem up (h : s.Refusing t) : ∃ more, t.up = s.up ++ more := by
  induction h with
  | refl => exact ⟨[], (List.append_nil _).symm⟩
  | choice _ ih => exact ih
  | @refuse t _ x _ _ ih =>
    obtain ⟨more, ih⟩ := ih
    obtain ⟨-, -, -, -, -, one, up⟩ := t.refuseWrite_frame x
    exact ⟨more ++ one, by rw [up, ih, List.append_assoc]⟩

theorem entries (h : s.Refusing t) {e : Entry} (he : e ∈ t.entries) : e ∈ s.entries := by
  induction h with
  | refl => exact he
  | choice _ ih => exact ih he
  | @refuse t _ x _ _ ih =>
    obtain ⟨-, -, entries, -⟩ := t.refuseWrite_frame x
    rw [entries] at he
    exact ih (List.mem_of_mem_filter he)

theorem count (h : s.Refusing t) {n : Nat} (small : n ≤ 65535) (hn : n ≤ s.refusedWrites) : n ≤ t.refusedWrites := by
  induction h with
  | refl => exact hn
  | choice _ ih => exact ih
  | @refuse t _ x _ _ ih =>
    obtain ⟨-, -, -, count, -⟩ := t.refuseWrite_frame x
    rw [count]
    unfold sat
    omega

/-- Once the count stands above 0, refusals make no record. -/
theorem silent (h : s.Refusing t) (counted : s.refusedWrites ≠ 0) : t.log = s.log ∧ t.bus.next = s.bus.next := by
  induction h with
  | refl => exact ⟨rfl, rfl⟩
  | choice _ ih =>
    refine ⟨ih.1, Eq.trans ?_ ih.2⟩
    unfold Bus.choose
    split <;> rfl
  | @refuse t k x _ _ ih =>
    have above : t.refusedWrites ≠ 0 := Nat.one_le_iff_ne_zero.1 (k.count (by omega) (Nat.one_le_iff_ne_zero.2 counted))
    obtain ⟨more, -, bus, silent, -⟩ := t.refuseWrite_asks x
    obtain ⟨rfl, log⟩ := silent above
    exact ⟨log.trans ih.1, by rw [bus]; exact ih.2⟩

/-- A transaction that is there after refusals was there before, or is new. -/
theorem known (h : s.Refusing t) : s.bus.next ≤ t.bus.next ∧ ∀ y ∈ t.bus.txns, y ∈ s.bus.txns ∨ s.bus.next ≤ y.id := by
  induction h with
  | refl => exact ⟨Nat.le_refl _, fun y hy => .inl hy⟩
  | @choice t _ ih =>
    have next : t.bus.choose.2.next = t.bus.next := by
      unfold Bus.choose
      split <;> rfl
    dsimp only
    rw [next, Keeps.choose_txns]
    exact ih
  | @refuse t _ x _ _ ih =>
    obtain ⟨next, known⟩ := ih
    obtain ⟨more, new, bus, -⟩ := t.refuseWrite_asks x
    rw [bus]
    refine ⟨next.trans (Nat.le_add_right ..), fun y hy => ?_⟩
    rcases List.mem_append.1 hy with old | asked
    · exact known y (List.mem_of_mem_filter old)
    · exact .inr (next.trans (new y asked).2)

/-- A transaction stays through the refusals of others: one that is no upstream transaction, and one that is refused until its own turn. -/
theorem stays (h : s.Refusing t) (apart : s.tagsApart) {y : Txn} (hy : y ∈ s.bus.txns) (other : y.owner ≠ .upstream) :
    y ∈ t.bus.txns := by
  induction h with
  | refl => exact hy
  | choice _ ih => rwa [Keeps.choose_txns]
  | @refuse t k x mem refused ih =>
    obtain ⟨-, -, -, nodup, -⟩ := k.keeps.tags apart
    obtain ⟨more, -, bus, -⟩ := t.refuseWrite_asks x
    rw [bus]
    refine List.mem_append_left _ (List.mem_filter.2 ⟨ih, ?_⟩)
    rw [bne_iff_ne]
    intro same
    cases List.inj_on_of_nodup_map nodup ih mem same
    exact other (State.refuses_upstream refused)

theorem refusedOrGone (h : s.Refusing t) (apart : s.tagsApart) {y : Txn} (hy : y ∈ s.bus.txns) (refused : s.refuses y = true) :
    (y ∈ t.bus.txns ∧ t.refuses y = true) ∨ ∀ z ∈ t.bus.txns, z.id ≠ y.id := by
  have old : y.id < s.bus.next := (apart.2.2.2.2 y hy).1
  induction h with
  | refl => exact .inl ⟨hy, refused⟩
  | choice _ ih => rwa [Keeps.choose_txns]
  | @refuse t k x mem refused' ih =>
    obtain ⟨-, -, -, nodup, -⟩ := k.keeps.tags apart
    obtain ⟨next, -⟩ := k.known
    obtain ⟨more, new, bus, -⟩ := t.refuseWrite_asks x
    by_cases same : y.id = x.id
    · refine .inr fun z hz => ?_
      rw [bus] at hz
      rcases List.mem_append.1 hz with kept | asked
      · have := (List.mem_filter.1 kept).2
        rw [bne_iff_ne] at this
        exact fun e => this (e.trans same)
      · have := (new z asked).2
        omega
    · rw [State.refuses_refuseWrite t same, bus]
      rcases ih with ⟨there, still⟩ | gone
      · exact .inl ⟨List.mem_append_left _ (List.mem_filter.2 ⟨there, bne_iff_ne.2 same⟩), still⟩
      · refine .inr fun z hz => ?_
        rcases List.mem_append.1 hz with kept | asked
        · exact gone z (List.mem_of_mem_filter kept)
        · have := (new z asked).2
          omega

end State.Refusing

/-- What is asked for is there after a grant, issued or not. -/
theorem State.mem_issue {s : State} {y : Txn} (hy : y ∈ s.bus.txns) (id : Nat) :
    y ∈ (s.bus.issue id).txns ∨ { y with issued := true } ∈ (s.bus.issue id).txns := by
  by_cases e : y.id = id
  · exact .inr (List.mem_map.2 ⟨y, hy, if_pos e⟩)
  · exact .inl (List.mem_map.2 ⟨y, hy, if_neg e⟩)

theorem Bus.mem_issue_id {b : Bus} {id : Nat} {y : Txn} (hy : y ∈ (b.issue id).txns) :
    ∃ z ∈ b.txns, z.id = y.id ∧ (z.id ≠ id → y = z) := by
  obtain ⟨z, hz, rfl⟩ := List.mem_map.1 hy
  refine ⟨z, hz, ?_, fun ne => if_neg ne⟩
  split <;> rfl

/-! ## Memory's answers (R11, R12) -/

theorem tag_bne (x y : Nat) : (x != y) = decide (x ≠ y) := by
  rw [Bool.eq_iff_iff]
  simp

theorem State.treatWrite_pass (s : State) (x : Txn) {e : Entry} (ring : e.treatment.ring = false) (tail : e.treatment.tailWord = .none)
    (head : e.treatment.headWord = .none) : s.treatWrite x e = s := by
  unfold State.treatWrite
  split
  · rfl
  · simp [ring, tail, head, State.handTail, State.handHead]

/-- An upstream transaction whose treatments leave the state alone is answered, and its entry is free. -/
theorem State.finishUpstream_pass {s : State} {x : Txn} {e : Entry} {a : Answer} (entry : s.entry x.id = some e)
    (pass : (e.treatment.ring = false ∧ e.treatment.tailWord = .none ∧ e.treatment.headWord = .none) ∨ a = .error) :
    s.finishUpstream x e a = { s with
      up := s.up ++ [⟨e.tag, UpResult.ofAnswer a⟩]
      entries := s.entries.filter fun y => y.id ≠ x.id
      bus := { s.bus with txns := s.bus.txns.filter fun y => y.id ≠ x.id } } := by
  have treated : (if a = .error then s.completeTxn x.id else (s.completeTxn x.id).treatWrite x e) = s.completeTxn x.id := by
    split
    · rfl
    · next ok =>
      obtain ⟨ring, tail, head⟩ := pass.resolve_right ok
      exact State.treatWrite_pass _ x ring tail head
  have entry' : (s.completeTxn x.id).entry x.id = some e := entry
  simp only [State.finishUpstream, treated, State.answer_of_entry entry', tag_bne]
  simp only [State.completeTxn, Bus.complete, tag_bne]

theorem State.onResponse_self {s : State} {x : Txn} (f : Txn → State → State) (routed : s.bus.issuedTxn x.id = some x)
    {o : Owner} (owner : x.owner = o) (live : o ≠ .stale) : s.onResponse x.id f = f x s :=
  State.onResponse_of f routed (owner ▸ live)

end Sys2Proof.Machine

namespace Sys2Proof.Certificates.Slice0
open Sys2Proof.Machine

/-- Settles O9. -/
theorem grantIssuesTheFirstCandidate : Obligations.GrantIssuesTheFirstCandidate := by
  intro s ⟨_, entries, _, txns, _⟩
  refine ⟨fun none_ => ?_, fun x turns allowed => ?_⟩
  · refine congrArg Host.Outcome.next ?_
    rw [State.grant, Bus.choose_of_none none_]
  · have notRefused : s.refuses x = false := by
      rw [← Bool.not_eq_true, State.refuses_iff entries]
      rintro ⟨upstream, ⟨e, he, id, checked⟩, b, on, protects⟩
      rcases allowed with other | ⟨e', he', id', unchecked⟩ | free
      · exact other upstream
      · cases List.inj_on_of_nodup_map entries he he' (id.trans id'.symm)
        rw [checked] at unchecked
        cases unchecked
      · exact free b ⟨on, protects⟩
    refine congrArg Host.Outcome.next ?_
    rw [State.grant_of_choose _ (Bus.choose_of_turnsTo txns turns), notRefused]
    rfl

/-- Settles O10: the rest of the grant takes nothing back. -/
theorem grantRefusesAProtectedWrite : Obligations.GrantRefusesAProtectedWrite := by
  intro s x e apart turns upstream he id checked touched
  have kept (refused : s.refuses x = true) := (State.Keeps.refl.refuseWrite turns.1.1 refused).tags apart
  obtain ⟨_, entries, _, txns, txnTags⟩ := apart
  have old : x.id < s.bus.next := (txnTags x turns.1.1).1
  have refused : s.refuses x = true := (State.refuses_iff entries x).2 ⟨upstream, ⟨e, he, id, checked⟩, touched⟩
  have next : exec .downstreamGrant s = .next (State.grant s.entries.length (s.refuseWrite x)) :=
    congrArg Host.Outcome.next (by rw [State.grant_of_choose _ (Bus.choose_of_turnsTo txns turns), refused]; rfl)
  obtain ⟨-, -, frame, count, up, -⟩ := s.refuseWrite_frame x
  obtain ⟨more, new, bus, silent, first⟩ := s.refuseWrite_asks x
  obtain ⟨t, refusing, rest⟩ := State.grant_spec s.entries.length (s.refuseWrite x)
  obtain ⟨others, ups⟩ := refusing.up
  have counted : (s.refuseWrite x).refusedWrites ≠ 0 := by
    rw [count]
    unfold sat
    omega
  obtain ⟨log, nextTag⟩ := refusing.silent counted
  have gone (y : Txn) (hy : y ∈ t.bus.txns) : y.id ≠ x.id := by
    rcases refusing.known.2 y hy with there | later
    · rw [bus] at there
      rcases List.mem_append.1 there with left | asked
      · simpa using (List.mem_filter.1 left).2
      · have := (new y asked).2
        omega
    · rw [bus] at later
      dsimp only at later
      omega
  have free (y : Entry) (hy : y ∈ t.entries) : y.id ≠ x.id := by
    have := refusing.entries hy
    rw [frame] at this
    simpa using (List.mem_filter.1 this).2
  have answered : t.up = s.up ++ ⟨e.tag, .refused⟩ :: others := by
    rw [ups, up e (id ▸ State.entry_of_mem entries he), List.append_assoc]
    rfl
  have atLeast : sat s.refusedWrites ≤ t.refusedWrites := refusing.count (Nat.min_le_right ..) count.ge
  have asked (zero : s.refusedWrites = 0) (y : Txn) (hy : y ∈ (s.record x.refusal).bus.txns) (tag : y.id = s.bus.next) :
      y ∈ t.bus.txns := by
    obtain ⟨-, there⟩ := first zero
    rw [there] at hy
    rcases List.mem_append.1 hy with before | asked
    · have := (txnTags y before).1
      omega
    · exact refusing.stays (kept refused) (by rw [bus]; exact List.mem_append_right _ asked) (new y asked).1
  refine ⟨_, others, next, ?_⟩
  rcases rest with e' | ⟨z, -, -, e'⟩ <;> rw [e']
  · refine ⟨answered, gone, free, atLeast, fun some_ => ?_, fun zero => ?_⟩
    · obtain ⟨rfl, same⟩ := silent some_
      exact ⟨log.trans same, nextTag.trans (by rw [bus]; rfl)⟩
    · obtain ⟨same, there⟩ := first zero
      exact ⟨log.trans same, nextTag.trans (by rw [bus, ← Txn.refusal, there]), fun y hy tag => .inl (asked zero y hy tag)⟩
  · refine ⟨answered, fun y hy => ?_, free, atLeast, fun some_ => ?_, fun zero => ?_⟩
    · obtain ⟨y', hy', same, -⟩ := Bus.mem_issue_id hy
      exact same ▸ gone y' hy'
    · obtain ⟨rfl, same⟩ := silent some_
      exact ⟨log.trans same, nextTag.trans (by rw [bus]; rfl)⟩
    · obtain ⟨same, there⟩ := first zero
      exact ⟨log.trans same, nextTag.trans (by rw [bus, ← Txn.refusal, there]), fun y hy tag => State.mem_issue (asked zero y hy tag) _⟩

/-- Settles O11: a protected write is refused as long as it is there. -/
theorem noGrantIssuesAProtectedWrite : Obligations.NoGrantIssuesAProtectedWrite := by
  intro s t apart next x hx waits upstream checked touched y hy same
  have refused : s.refuses x = true := (State.refuses_iff apart.2.1 x).2 ⟨upstream, checked, touched⟩
  obtain ⟨u, refusing, rest⟩ := State.grant_spec (s.entries.length + 1) s
  obtain ⟨-, -, -, nodup, -⟩ := refusing.keeps.tags apart
  cases next
  have still (z : Txn) (hz : z ∈ u.bus.txns) (id : z.id = x.id) : z = x := by
    rcases refusing.refusedOrGone apart hx refused with ⟨there, -⟩ | gone
    · exact List.inj_on_of_nodup_map nodup hz there id
    · exact absurd id (gone z hz)
  rcases rest with e | ⟨z, hz, notRefused, e⟩ <;> rw [e] at hy
  · rw [still y hy same, waits]
  · obtain ⟨y', hy', id, unissued⟩ := Bus.mem_issue_id hy
    have isX := still y' hy' (id.trans same)
    rw [unissued fun turn => ?_, isX, waits]
    have : y' = z := List.inj_on_of_nodup_map nodup hy' hz turn
    rcases refusing.refusedOrGone apart hx refused with ⟨-, refused'⟩ | gone
    · rw [← isX, this, notRefused] at refused'
      cases refused'
    · exact gone y' hy' (id.trans same)

/-- Settles O12. -/
theorem memoryAnswersGoUpstream : Obligations.MemoryAnswersGoUpstream := by
  intro s x e a routed entry
  refine ⟨fun upstream which => ?_, fun c fetch eligible => ?_⟩
  · refine congrArg Host.Outcome.next ((State.onResponse_self _ routed upstream (by decide)).trans ?_)
    simp only [upstream, entry, State.finishUpstream_pass entry which]
    cases a <;> rfl
  · refine congrArg Host.Outcome.next ((State.onResponse_self _ routed fetch (by decide)).trans ?_)
    simp only [fetch, entry, State.fetchDone, eligible, State.completeTxn, Bus.complete, tag_bne]
    rfl

end Sys2Proof.Certificates.Slice0

namespace Sys2Proof.Machine

/-! ## A forwarded write that memory answers OK (R8, R9) -/

theorem State.onWriteDone_of {s : State} {x : Txn} {e : Entry} {f : Treatment → Bool} (routed : s.bus.issuedTxn x.id = some x)
    (entry : s.entry x.id = some e) (upstream : x.owner = .upstream) (write : e.write = true) (treated : f e.treatment = true) :
    s.onWriteDone x.id f = s.finishUpstream x e (.ok []) := by
  rw [State.onWriteDone, State.onResponse_self _ routed upstream (by decide)]
  simp only [upstream, entry, write, treated, Bool.and_self, if_true]

/-- The write has left the list of downstream transactions. -/
def State.left (s : State) (x : Txn) : State :=
  { s with bus := { s.bus with txns := s.bus.txns.filter fun y => y.id ≠ x.id } }

theorem State.completeTxn_eq_left (s : State) (x : Txn) : s.completeTxn x.id = s.left x := by
  simp only [State.completeTxn, Bus.complete, tag_bne, State.left]

/-- The write has left the list of downstream transactions, and the ring that it meets has been told. -/
def State.reported (s : State) (x : Txn) (e : Entry) : State :=
  if e.treatment.ring = true then (s.left x).reportRingWrite x.addr x.data x.enables else s.left x

theorem State.reported_outer (s : State) (x : Txn) (e : Entry) : (s.reported x e).outer = s.outer := by
  unfold State.reported
  split
  · exact State.reportRingWrite_outer ..
  · rfl

theorem dir_of_outer {s t : State} (h : s.outer = t.outer) : s.dir = t.dir := by
  have := congrArg State.dir h
  exact this

theorem up_of_outer {s t : State} (h : s.outer = t.outer) : s.up = t.up := by
  have := congrArg State.up h
  exact this

/-- The watched words that a write meets touch the directive unit alone. -/
theorem State.hand_eq {s t : State} (dir : t.dir = s.dir) (m : RegionMap) (x : Txn) (tail head : WordTouch) :
    (t.handTail m x tail).handHead m x head = { t with dir := ((s.handTail m x tail).handHead m x head).dir } := by
  cases tail <;> cases head <;> simp only [State.handTail, State.handHead, State.mapDir, dir]
  rw [← dir]

theorem State.finishUpstream_ok {s : State} {x : Txn} {e : Entry} {m : RegionMap} (entry : s.entry x.id = some e)
    (map : s.map = some m) : s.finishUpstream x e (.ok []) = { s.reported x e with
      up := s.up ++ [⟨e.tag, .ok []⟩]
      entries := s.entries.filter fun y => y.id ≠ x.id
      dir := ((s.handTail m x e.treatment.tailWord).handHead m x e.treatment.headWord).dir } := by
  have map' : (s.left x).map = some m := map
  have treated : (s.left x).treatWrite x e =
      { s.reported x e with dir := ((s.handTail m x e.treatment.tailWord).handHead m x e.treatment.headWord).dir } := by
    unfold State.treatWrite
    rw [map']
    exact State.hand_eq (dir_of_outer (s.reported_outer x e)) m x _ _
  have sameEntries : (s.reported x e).entries = s.entries := entries_of_outer (s.reported_outer x e)
  have sameUp : (s.reported x e).up = s.up := up_of_outer (s.reported_outer x e)
  have entry' : ((s.left x).treatWrite x e).entry x.id = some e := by
    rw [treated, State.entry]
    dsimp only
    rw [sameEntries]
    exact entry
  simp only [State.finishUpstream, State.completeTxn_eq_left, reduceCtorEq, if_false, State.answer_of_entry entry', UpResult.ofAnswer,
    tag_bne]
  rw [treated]
  simp only [sameEntries, sameUp]

/-! ## The whole cells of a ring write (R26) -/

theorem insertCell_perm (x : WholeCell) (l : List WholeCell) : (insertCell x l).Perm (x :: l) := by
  induction l with
  | nil => exact .refl _
  | cons y l ih =>
    unfold insertCell
    split
    · exact .refl _
    · exact (ih.cons y).trans (.swap ..)

theorem insertCell_sorted (x : WholeCell) {l : List WholeCell} (h : l.Pairwise fun y z => y.addr ≤ z.addr) :
    (insertCell x l).Pairwise fun y z => y.addr ≤ z.addr := by
  induction l with
  | nil => exact List.pairwise_singleton ..
  | cons y l ih =>
    obtain ⟨first, rest⟩ := List.pairwise_cons.1 h
    unfold insertCell
    split
    · next before =>
      refine List.pairwise_cons.2 ⟨fun z hz => ?_, h⟩
      rcases List.mem_cons.1 hz with rfl | later
      · exact Nat.le_of_lt before
      · exact (Nat.le_of_lt before).trans (first z later)
    · next after =>
      refine List.pairwise_cons.2 ⟨fun z hz => ?_, ih rest⟩
      rcases (mem_insertCell x z l).1 hz with rfl | later
      · exact Nat.le_of_not_lt after
      · exact first z later

theorem sortCells_sorted (l : List WholeCell) {acc : List WholeCell} (h : acc.Pairwise fun y z => y.addr ≤ z.addr) :
    (l.foldl (fun l x => insertCell x l) acc).Pairwise fun y z => y.addr ≤ z.addr := by
  induction l generalizing acc with
  | nil => exact h
  | cons x l ih => exact ih (insertCell_sorted x h)

theorem sortCells_perm (l acc : List WholeCell) : (l.foldl (fun l x => insertCell x l) acc).Perm (l ++ acc) := by
  induction l generalizing acc with
  | nil => exact .refl _
  | cons x l ih => exact (ih _).trans (((insertCell_perm x acc).append_left l).trans List.perm_middle)

theorem Ring.wholeCells_nodup (r : Ring) (ring : RingOf) (addr : Nat) (data : List Byte) (enables : List Bool) :
    (r.wholeCells ring addr data enables).Nodup := by
  refine List.Nodup.filterMap (fun i j y hi hj => ?_) (by simp)
  have index (k : Nat) (h : y ∈ (if k < r.cells && decide (addr ≤ r.base + 192 * k) && allEnabled enables (r.base + 192 * k - addr)
      then some (⟨r.base + 192 * k, ring, k, slice data (r.base + 192 * k - addr) 192⟩ : WholeCell) else none)) : y.index = k := by
    split at h
    · cases h
      rfl
    · cases h
  exact (index i hi).symm.trans (index j hj)

theorem Ring.ring_of_mem_wholeCells {r : Ring} {ring : RingOf} {addr : Nat} {data : List Byte} {enables : List Bool} {y : WholeCell}
    (h : y ∈ r.wholeCells ring addr data enables) : y.ring = ring := by
  obtain ⟨i, -, hi⟩ := List.mem_filterMap.1 h
  dsimp only at hi
  split at hi
  · cases hi
    rfl
  · cases hi

/-- The whole cells of several rings are different cells. -/
theorem flatMap_wholeCells_nodup {α : Type} {l : List α} (apart : l.Nodup) {f : α → List WholeCell} {name : α → RingOf}
    (inj : Function.Injective name) (own : ∀ a, ∀ y ∈ f a, y.ring = name a) (each : ∀ a, (f a).Nodup) : (l.flatMap f).Nodup := by
  refine List.nodup_flatMap.2 ⟨fun a _ => each a, apart.imp fun {a b} ne => ?_⟩
  exact fun y ha hb => ne (inj ((own a y ha).symm.trans (own b y hb)))

theorem RegionMap.wholeCells_nodup (m : RegionMap) (addr : Nat) (data : List Byte) (enables : List Bool) :
    (m.wholeCells addr data enables).Nodup := by
  refine ((sortCells_perm _ _).nodup_iff).2 ?_
  rw [List.append_nil]
  have channel (c : Fin 32) : ∀ y ∈ (match m.channelRings[c] with
      | some r => r.wholeCells (.channel c) addr data enables
      | none => []), y.ring = .channel c := by
    intro y hy
    split at hy
    · exact Ring.ring_of_mem_wholeCells hy
    · cases hy
  have feed (f : Fin 6) : ∀ y ∈ m.feedRings[f].wholeCells (.feed f) addr data enables, y.ring = .feed f := fun y hy =>
    Ring.ring_of_mem_wholeCells hy
  refine List.nodup_append.2 ⟨?_, ?_, fun y hy z hz => ?_⟩
  · refine flatMap_wholeCells_nodup (List.nodup_finRange 32) (fun _ _ h => by cases h; rfl) channel fun c => ?_
    split
    · exact Ring.wholeCells_nodup ..
    · exact .nil
  · exact flatMap_wholeCells_nodup (List.nodup_finRange 6) (fun _ _ h => by cases h; rfl) feed fun f => Ring.wholeCells_nodup ..
  · obtain ⟨c, -, hc⟩ := List.mem_flatMap.1 hy
    obtain ⟨f, -, hf⟩ := List.mem_flatMap.1 hz
    rintro rfl
    cases (channel c y hc).symm.trans (feed f y hf)

/-- The whole cells of a write in ascending address order are the ones that the map holds, when no two of them share an address. -/
theorem RegionMap.wholeCells_eq {m : RegionMap} {x : Txn} {cells : List WholeCell} (short : x.enables.length ≤ 512)
    (members : ∀ y, y ∈ cells ↔ m.holdsWhole x y) (ascending : cells.Pairwise fun y z => y.addr < z.addr) :
    m.wholeCells x.addr x.data x.enables = cells := by
  have same (y : WholeCell) : y ∈ m.wholeCells x.addr x.data x.enables ↔ y ∈ cells :=
    (m.mem_wholeCells x short y).trans (members y).symm
  have distinct : cells.Nodup := ascending.imp fun {y z} lt => by
    rintro rfl
    exact Nat.lt_irrefl _ lt
  have perm := (List.perm_ext_iff_of_nodup (m.wholeCells_nodup ..) distinct).2 same
  have addresses : (cells.map WholeCell.addr).Nodup := List.pairwise_map.2 (ascending.imp Nat.ne_of_lt)
  refine perm.eq_of_pairwise (fun y z hy hz le ge => ?_) (sortCells_sorted _ .nil) (ascending.imp Nat.le_of_lt)
  exact List.inj_on_of_nodup_map addresses ((same y).1 hy) hz (Nat.le_antisymm le ge)

/-- A write of one whole cell of one ring, and of no other, holds that cell alone. -/
theorem RegionMap.wholeCells_one {m : RegionMap} {x : Txn} {r : Ring} {i : Nat} {ring : RingOf}
    (place : (∃ c, ring = .channel c ∧ m.channelRings[c] = some r) ∨ ∃ f, ring = .feed f ∧ m.feedRings[f] = r) (few : i < r.cells)
    (addr : x.addr = r.base + 192 * i) (data : x.data.length = 192) (enables : x.enables = List.replicate 192 true)
    (channels : ∀ (c : Fin 32) (q : Ring), m.channelRings[c] = some q → q.has x.addr → ring = .channel c)
    (feeds : ∀ f : Fin 6, m.feedRings[f].has x.addr → ring = .feed f) :
    m.wholeCells x.addr x.data x.enables = [⟨x.addr, ring, i, x.data⟩] := by
  have all : (x.data.drop 0).take 192 = x.data := List.take_of_length_le data.le
  refine RegionMap.wholeCells_eq (by rw [enables, List.length_replicate]; decide) (fun y => ?_) (List.pairwise_singleton ..)
  rw [List.mem_singleton]
  constructor
  · rintro rfl
    refine ⟨⟨r, place.imp (fun ⟨c, e, h⟩ => ⟨c, e, h⟩) fun ⟨f, e, h⟩ => ⟨f, e, h⟩, few, addr⟩, Nat.le_refl _, fun k hk => ?_, ?_⟩
    · rw [Nat.sub_self, Nat.zero_add, enables, List.getElem?_replicate, if_pos hk]
    · rw [Nat.sub_self, all]
  · obtain ⟨a, ring', j, bytes⟩ := y
    rintro ⟨⟨q, which, inside, at_⟩, after, whole, held⟩
    dsimp only at which inside at_ after whole held
    have here : a = x.addr := by
      have last := whole 191 (by omega)
      rw [enables, List.getElem?_replicate] at last
      split at last
      · omega
      · cases last
    subst here
    have within : q.has x.addr := ⟨by omega, by omega⟩
    have sameRing : ring' = ring := by
      rcases which with ⟨c, rfl, hc⟩ | ⟨f, rfl, rfl⟩
      · exact (channels c q hc within).symm
      · exact (feeds f within).symm
    subst sameRing
    have same : q = r := by
      rcases which with ⟨c, rfl, hc⟩ | ⟨f, rfl, rfl⟩ <;> rcases place with ⟨c', e, hr⟩ | ⟨f', e, hr⟩ <;> cases e
      · exact Option.some.inj (hc.symm.trans hr)
      · exact hr
    subst same
    have : j = i := by omega
    rw [this, held, Nat.sub_self, all]

theorem State.reported_ring {s : State} {x : Txn} {e : Entry} {m : RegionMap} (ring : e.treatment.ring = true) (map : s.map = some m) :
    s.reported x e = (m.wholeCells x.addr x.data x.enables).foldl State.takeWholeCell (s.left x) := by
  have map' : (s.left x).map = some m := map
  rw [State.reported, if_pos ring, State.reportRingWrite, map']

/-- A forwarded ring write that meets no watched word. -/
theorem exec_ringWriteComplete {s : State} {x : Txn} {e : Entry} {m : RegionMap} (routed : s.bus.issuedTxn x.id = some x)
    (entry : s.entry x.id = some e) (upstream : x.owner = .upstream) (write : e.write = true) (ring : e.treatment.ring = true)
    (tail : e.treatment.tailWord = .none) (head : e.treatment.headWord = .none) (map : s.map = some m) :
    exec (.ringWriteComplete x.id) s = .next
      { (m.wholeCells x.addr x.data x.enables).foldl State.takeWholeCell (s.left x) with
        up := s.up ++ [⟨e.tag, .ok []⟩]
        entries := s.entries.filter fun y => y.id ≠ x.id } := by
  refine congrArg Host.Outcome.next ((State.onWriteDone_of routed entry upstream write ring).trans ?_)
  have dir : (s.reported x e).dir = s.dir := dir_of_outer (s.reported_outer x e)
  rw [State.finishUpstream_ok entry map, ← State.reported_ring ring map, tail, head, State.handTail, State.handHead, ← dir]

/-! ## Feed cells (R34, R35) -/

/-- R34: the skip from the next index to index `i`, modulo the cells of the ring. -/
theorem FeedTracker.skip_eq (t : FeedTracker) {cells i : Nat} (few : i < cells) :
    (t.skip cells i : Int) = ((i : Int) - t.next) % cells := by
  have cellsPos : 0 < cells := by omega
  have lt : t.next % cells < cells := Nat.mod_lt _ cellsPos
  rw [FeedTracker.skip, Int.natCast_emod, Nat.cast_sub (by omega), Int.natCast_emod, Nat.cast_add]
  refine Int.emod_eq_emod_iff_emod_sub_eq_zero.2 (Int.emod_eq_zero_of_dvd ⟨1 + t.next / cells, ?_⟩)
  have := Int.emod_add_mul_ediv t.next cells
  linarith

theorem FeedTracker.number_eq (t : FeedTracker) {cells i : Nat} (few : i < cells) :
    BitVec.ofNat 32 (t.skip cells i) = BitVec.ofInt 32 (((i : Int) - t.next) % cells) := by
  rw [← t.skip_eq few]
  exact (BitVec.ofInt_natCast ..).symm

/-- R34, R35: the latest entry is the cell just numbered when it is an entry cell, and expires once lapped. -/
theorem FeedTracker.takeCell_latest (t : FeedTracker) (cells i : Nat) (cell : List Byte) : (t.takeCell cells i cell).latest =
    (((entryPts t.roles[(0 : Fin 6)] cell).map fun p => (t.written + BitVec.ofNat 32 (t.skip cells i), p)).or t.latest).filter
      fun e => decide (((t.takeCell cells i cell).written - e.1).toNat < cells) := by
  have video : t.roles[Role.video.idx] = t.roles[(0 : Fin 6)] := rfl
  unfold FeedTracker.takeCell
  rw [video]
  cases entryPts t.roles[(0 : Fin 6)] cell <;> rfl

/-! ## Watched words (R9, R186, R189) -/

/-- R189: the advance from the response head to a value. -/
theorem DirectiveUnit.advance_eq {d : DirectiveUnit} {v a : Nat} (inRing : d.responseHead < 64)
    (around : v = d.responseHead → d.published = 64 → a = 64)
    (forward_ : ¬ (v = d.responseHead ∧ d.published = 64) → a = ((v - d.responseHead : Int) % 64).toNat) : d.advance v = a := by
  unfold DirectiveUnit.advance
  split
  · next all => exact (around all.1 all.2).symm
  · next notAll =>
    rw [forward_ notAll]
    omega

end Sys2Proof.Machine

namespace Sys2Proof.Certificates.Slice0
open Sys2Proof.Machine

/-- Settles O13. -/
theorem feedCellsAreNumbered : Obligations.FeedCellsAreNumbered := by
  refine ⟨fun s x e m cells routed entry upstream write ring tail head map short members ascending => ?_,
    fun s x e m f i routed entry upstream write ring tail head map few addr data enables otherFeeds channels => ?_⟩
  · rw [← RegionMap.wholeCells_eq short members ascending]
    exact exec_ringWriteComplete routed entry upstream write ring tail head map
  · have one := RegionMap.wholeCells_one (.inr ⟨f, rfl, rfl⟩) few addr data enables
      (fun c q hq has => absurd has (channels c q hq)) fun g has => by
        by_contra ne
        exact otherFeeds g (fun same => ne (congrArg RingOf.feed same.symm)) has
    have next := exec_ringWriteComplete routed entry upstream write ring tail head map
    rw [one] at next
    have ring' : (s.left x).feedRing f = m.feedRings[f] := by simp only [State.feedRing, State.left, map]
    have cell : [(⟨x.addr, .feed f, i, x.data⟩ : WholeCell)].foldl State.takeWholeCell (s.left x) =
        (s.left x).mapFeed f fun t => t.takeCell m.feedRings[f].cells i x.data := by
      rw [← ring']
      rfl
    rw [cell] at next
    refine ⟨(s.feed f).takeCell m.feedRings[f].cells i x.data, _, _, next, congrArg _ ((s.feed f).number_eq few), rfl, rfl, rfl, rfl,
      fun q hq lapped => ?_, fun q hq fresh => ?_, fun none_ => ?_, rfl, rfl⟩
    · rw [FeedTracker.takeCell_latest, hq]
      exact if_neg (by simpa using lapped)
    · rw [FeedTracker.takeCell_latest, hq]
      exact if_pos (by simpa using fresh)
    · rw [FeedTracker.takeCell_latest, none_]
      rfl

/-- Settles O16. -/
theorem tailWritesAreTakenAndPartsCounted : Obligations.TailWritesAreTakenAndPartsCounted := by
  intro s x e m routed entry upstream write map left reported answered value
  have done {f : Treatment → Bool} (treated : f e.treatment = true) : s.onWriteDone x.id f =
      answered ((s.handTail m x e.treatment.tailWord).handHead m x e.treatment.headWord).dir :=
    (State.onWriteDone_of routed entry upstream write treated).trans (State.finishUpstream_ok entry map)
  refine ⟨fun tail head => ⟨fun small => ?_, fun large => ?_⟩, fun tail head => ?_, fun tail head => ?_⟩
  · refine congrArg Host.Outcome.next ((done (by rw [tail]; rfl)).trans (congrArg answered ?_))
    rw [tail, head]
    exact if_pos small
  · refine congrArg Host.Outcome.next ((done (by rw [tail]; rfl)).trans (congrArg answered ?_))
    rw [tail, head]
    exact if_neg (Nat.not_lt.2 large)
  · refine congrArg Host.Outcome.next ((done (by rw [tail]; rfl)).trans (congrArg answered ?_))
    rw [tail, head]
    rfl
  · refine congrArg Host.Outcome.next ((done (by rw [tail, head]; rfl)).trans (congrArg answered ?_))
    rw [tail, head]
    rfl

/-- Settles O17. -/
theorem headWritesGiveSlotsBack : Obligations.HeadWritesGiveSlotsBack := by
  rintro s x e m value a routed entry upstream write map tail head rfl inRing around forward_ left reported
  have advance := DirectiveUnit.advance_eq inRing around forward_
  have next : exec (.responseHeadWrite x.id) s = .next _ := congrArg Host.Outcome.next
    ((State.onWriteDone_of routed entry upstream write (by rw [head]; rfl)).trans (State.finishUpstream_ok entry map))
  have dir : ((s.handTail m x e.treatment.tailWord).handHead m x e.treatment.headWord).dir =
      s.dir.takeHead (leField x.data (m.responseBase + 1024 - x.addr) 4) := by
    rw [tail, head]
    rfl
  refine ⟨_, next, fun small given => ?_, fun refused => ?_, decide_eq_true_iff, rfl⟩
  · rw [dir, DirectiveUnit.takeHead, advance]
    exact if_pos ⟨small, given⟩
  · rw [dir, DirectiveUnit.takeHead, advance]
    exact if_neg fun ⟨small, given⟩ => refused.elim (Nat.not_le.2 small) fun short => Nat.not_lt.2 given short

end Sys2Proof.Certificates.Slice0

namespace Sys2Proof.Machine

/-! ## Channel cells (R27 to R32) -/

theorem State.set_chan_self (s : State) (c : Fin 32) : s.channels.set c (s.chan c) = s.channels :=
  Vector.set_getElem_self ..

/-- The records of a clock sample (R32). -/
def ClockStep.records (r : ClockStep) (c : Fin 32) (total : Nat) : List Record :=
  if r.lost then [⟨.clockUnsteady, c, if 0 < r.deviation then 1 else 2, 0, total / 300, min r.deviation.natAbs (2 ^ 33 - 1)⟩]
  else if r.gained then [⟨.clockSteady, c, 0, 0, total / 300, r.deviation.natAbs⟩]
  else []

theorem ClockReason.code_of_sign (d : Int) : (if 0 < d then ClockReason.ahead else .behind).code = if 0 < d then 1 else 2 := by
  split <;> rfl

/-- A channel as the ingest monitor leaves it, and the records made. -/
def State.watched (s : State) (c : Fin 32) (p : Channel × List Record) : State :=
  { s.recordAll p.2 with channels := s.channels.set c p.1 }

theorem State.clockSample_eq (s : State) (c : Fin 32) (total : Nat) (stamp : Stamp) : s.clockSample c total stamp =
    s.watched c ({ s.chan c with clock := ((s.chan c).clock.sample (s.chan c).config.clockTolerance total stamp).tracker },
      ((s.chan c).clock.sample (s.chan c).config.clockTolerance total stamp).records c total) := by
  simp only [State.clockSample, State.watched, ClockStep.records, ClockReason.code_of_sign]
  split
  · rfl
  · split <;> rfl

theorem State.watched_self (s : State) (c : Fin 32) : s.watched c (s.chan c, []) = s :=
  congrArg (fun l => { s with channels := l }) (s.set_chan_self c)

theorem State.watched_chan (s : State) (c : Fin 32) (p : Channel × List Record) : (s.watched c p).chan c = p.1 := by
  simp [State.chan, State.watched]

/-- Records handed over, whatever the channels are. -/
theorem State.recordAll_channels (s : State) (l : List Record) (channels : Vector Channel 32) :
    ({ s with channels := channels } : State).recordAll l = { s.recordAll l with channels := channels } := by
  induction l generalizing s with
  | nil => rfl
  | cons r l ih => exact ih (s.record r)

theorem State.watched_watched (s : State) (c : Fin 32) (ch : Channel) (p : Channel × List Record) :
    (s.watched c (ch, [])).watched c p = s.watched c p := by
  have first : s.watched c (ch, []) = { s with channels := s.channels.set c ch } := rfl
  rw [first, State.watched, State.recordAll_channels, Vector.set_set]
  rfl

/-- The channel with the ingest video PTS of a cell, where it has one (R28). -/
def Channel.withPts (ch : Channel) (cell : List Byte) : Channel :=
  { ch with ingestPts := (readPts cell).or ch.ingestPts }

/-- What a cell on the VIDEO PID makes of its channel, and the records made (R27 step 2). -/
def Channel.videoStep (ch : Channel) (c : Fin 32) (cell : List Byte) : Channel × List Record :=
  match readPcr cell with
  | none => (ch.withPts cell, [])
  | some total =>
    ({ ch.withPts cell with clock := (ch.clock.sample ch.config.clockTolerance total (arrivalStamp cell)).tracker },
      (ch.clock.sample ch.config.clockTolerance total (arrivalStamp cell)).records c total)

theorem Channel.videoStep_of_none {ch : Channel} {c : Fin 32} {cell : List Byte} (h : readPcr cell = none) :
    ch.videoStep c cell = (ch.withPts cell, []) := by
  rw [Channel.videoStep, h]

theorem Channel.videoStep_of_some {ch : Channel} {c : Fin 32} {cell : List Byte} {total : Nat} (h : readPcr cell = some total) :
    ch.videoStep c cell =
      ({ ch.withPts cell with clock := (ch.clock.sample ch.config.clockTolerance total (arrivalStamp cell)).tracker },
        (ch.clock.sample ch.config.clockTolerance total (arrivalStamp cell)).records c total) := by
  rw [Channel.videoStep, h]

theorem Channel.videoStep_config (ch : Channel) (c : Fin 32) (cell : List Byte) : (ch.videoStep c cell).1.config = ch.config := by
  unfold Channel.videoStep
  split <;> rfl

theorem State.videoIngest_eq (s : State) (c : Fin 32) (cell : List Byte) :
    s.videoIngest c cell = s.watched c ((s.chan c).videoStep c cell) := by
  have sampled (total : Nat) : (s.watched c ((s.chan c).withPts cell, [])).clockSample c total (arrivalStamp cell) =
      s.watched c ({ (s.chan c).withPts cell with
        clock := ((s.chan c).clock.sample (s.chan c).config.clockTolerance total (arrivalStamp cell)).tracker },
        ((s.chan c).clock.sample (s.chan c).config.clockTolerance total (arrivalStamp cell)).records c total) := by
    rw [State.clockSample_eq, State.watched_chan]
    exact State.watched_watched ..
  cases pts : readPts cell with
  | none =>
    have same : (s.chan c).withPts cell = s.chan c := by simp [Channel.withPts, pts]
    rw [same, State.watched_self] at sampled
    cases pcr : readPcr cell with
    | none =>
      rw [Channel.videoStep_of_none pcr, same, State.watched_self]
      simp only [State.videoIngest, pts, pcr]
    | some total =>
      rw [Channel.videoStep_of_some pcr, same, ← sampled]
      simp only [State.videoIngest, pts, pcr]
  | some p =>
    have watched : (s.mapChan c fun ch => { ch with ingestPts := some p }) = s.watched c ((s.chan c).withPts cell, []) := by
      rw [Channel.withPts, pts]
      rfl
    cases pcr : readPcr cell with
    | none =>
      rw [Channel.videoStep_of_none pcr, ← watched]
      simp only [State.videoIngest, pts, pcr]
    | some total =>
      rw [Channel.videoStep_of_some pcr, ← sampled, ← watched]
      simp only [State.videoIngest, pts, pcr]

/-- What the ingest monitor makes of a channel at a whole cell of its ring, and the records made (R27). -/
def Channel.ingest (ch : Channel) (c : Fin 32) (cell : List Byte) : Channel × List Record :=
  if ch.state = .off then (ch, [])
  else if wellFormed cell = false then ({ ch with malformedIngest := sat ch.malformedIngest }, [])
  else if ch.pidOf .video = some (cellPid cell) then ch.videoStep c cell
  else (ch, [])

/-- R27, R29: a whole cell of a channel's ring is watched, and then handed to the cue unit when it is a cue cell. -/
theorem State.takeChannelCell_eq (s : State) (c : Fin 32) (cell : List Byte) : s.takeChannelCell c cell =
    if (s.chan c).state ≠ .off ∧ wellFormed cell = true ∧ (s.chan c).config.cuePid = some (cellPid cell) then
      (s.watched c ((s.chan c).ingest c cell)).cueCell c cell
    else s.watched c ((s.chan c).ingest c cell) := by
  unfold State.takeChannelCell Channel.ingest Channel.enabled
  by_cases off : (s.chan c).state = .off
  · simp [off, State.watched_self]
  by_cases formed : wellFormed cell = true
  · by_cases video : (s.chan c).pidOf .video = some (cellPid cell)
    · simp [off, formed, video, State.videoIngest_eq, State.watched_chan, Channel.videoStep_config]
    · simp [off, formed, video, State.watched_self]
  · simp [off, formed]
    rfl

/-! ## The clock tracker (R30) -/

/-- R25: the deviation is the distance of two totals, between minus and plus half of the modulus. -/
theorem pcrDifference_spec (x y : Nat) (below : y < 2576980377600) :
    -1288490188800 ≤ pcrDifference x y ∧ pcrDifference x y < 1288490188800 ∧
      (pcrDifference x y - ((x : Int) - y)) % 2576980377600 = 0 := by
  unfold pcrDifference pcrModulus
  dsimp only
  split <;> omega

theorem ClockTracker.sample_unseen {t : ClockTracker} (unseen : t.status = .unseen) (tolerance total : Nat) (stamp : Stamp) :
    t.sample tolerance total stamp = ⟨⟨.unsteady, some (total, stamp), 0⟩, 0, false, false⟩ := by
  unfold ClockTracker.sample
  rw [unseen]

/-- The signed deviation of a sample from the total that its stamp predicts (R30). -/
def ClockTracker.deviation (last : Nat) (old : Stamp) (total : Nat) (stamp : Stamp) : Int :=
  pcrDifference total ((last + stampSpan old stamp) % pcrModulus)

theorem ClockTracker.sample_seen {t : ClockTracker} (seen : t.status ≠ .unseen) {last : Nat} {old : Stamp}
    (before : t.last = some (last, old)) (tolerance total : Nat) (stamp : Stamp) : t.sample tolerance total stamp =
      if tolerance < (ClockTracker.deviation last old total stamp).natAbs then
        ⟨⟨.unsteady, some (total, stamp), 0⟩, ClockTracker.deviation last old total stamp, t.status == .steady, false⟩
      else
        ⟨⟨if min (t.settle + 1) 4 = 4 then .steady else t.status, some (total, stamp), min (t.settle + 1) 4⟩,
          ClockTracker.deviation last old total stamp, false,
          (if min (t.settle + 1) 4 = 4 then ClockStatus.steady else t.status) == .steady && t.status != .steady⟩ := by
  unfold ClockTracker.sample
  rw [before]
  split
  · next e => exact absurd e seen
  · next absent _ => cases absent
  · next same _ =>
    cases same
    rfl

theorem ClockTracker.sample_last (t : ClockTracker) (tolerance total : Nat) (stamp : Stamp) :
    (t.sample tolerance total stamp).tracker.last = some (total, stamp) := by
  by_cases unseen : t.status = .unseen
  · rw [ClockTracker.sample_unseen unseen]
  cases before : t.last with
  | none =>
    unfold ClockTracker.sample
    rw [before]
    split
    · rfl
    · rfl
    · next absent _ => cases absent
  | some p =>
    rw [ClockTracker.sample_seen unseen before]
    generalize ClockTracker.deviation p.1 p.2 total stamp = d
    split <;> rfl

/-- R30: the deviation is that of the two totals, as far as the modulus tells. -/
theorem ClockTracker.deviation_spec (last : Nat) (old : Stamp) (total : Nat) (stamp : Stamp) :
    -1288490188800 ≤ ClockTracker.deviation last old total stamp ∧ ClockTracker.deviation last old total stamp < 1288490188800 ∧
      (ClockTracker.deviation last old total stamp - (total - (last + (stamp - old).toNat))) % 2576980377600 = 0 := by
  obtain ⟨low, high, same⟩ := pcrDifference_spec total ((last + stampSpan old stamp) % pcrModulus) (Nat.mod_lt _ (by decide))
  refine ⟨low, high, ?_⟩
  unfold ClockTracker.deviation
  unfold stampSpan pcrModulus at same ⊢
  omega

end Sys2Proof.Machine

namespace Sys2Proof.Certificates.Slice0
open Sys2Proof.Machine

/-- Settles O14. -/
theorem channelCellsAreWatched : Obligations.ChannelCellsAreWatched := by
  intro s x e m c ring i routed entry upstream write meets tail head map ringOf few addr data enables feeds others
  have one := RegionMap.wholeCells_one (.inl ⟨c, rfl, ringOf⟩) few addr data enables
    (fun d q hq has => by
      by_contra ne
      exact others d q (fun same => ne (congrArg RingOf.channel same.symm)) hq has)
    fun g has => absurd has (feeds g)
  have next := exec_ringWriteComplete routed entry upstream write meets tail head map
  rw [one] at next
  have cell : [(⟨x.addr, .channel c, i, x.data⟩ : WholeCell)].foldl State.takeWholeCell (s.left x) =
      (s.left x).takeChannelCell c x.data := rfl
  rw [cell, State.takeChannelCell_eq] at next
  refine ⟨((s.chan c).ingest c x.data).1, ((s.chan c).ingest c x.data).2, next, fun off => ?_, fun on bad => ?_,
    fun on formed other => ?_, fun on formed video => ?_⟩
  · simp [Channel.ingest, off]
  · simp [Channel.ingest, on, bad]
  · simp [Channel.ingest, on, formed, other]
  · have step : (s.chan c).ingest c x.data = (s.chan c).videoStep c x.data := by simp [Channel.ingest, on, formed, video]
    rw [step]
    cases pcr : readPcr x.data with
    | none =>
      rw [Channel.videoStep_of_none pcr]
      exact ⟨rfl, fun _ => ⟨rfl, rfl⟩, nofun⟩
    | some total =>
      rw [Channel.videoStep_of_some pcr]
      refine ⟨rfl, nofun, fun total' same => ?_⟩
      cases same
      refine ⟨ClockTracker.sample_last .., fun unseen => ?_, fun last stamp seen before => ?_⟩
      · rw [ClockTracker.sample_unseen unseen]
        exact ⟨rfl, rfl, rfl⟩
      · obtain ⟨low, high, same⟩ := ClockTracker.deviation_spec last stamp total (arrivalStamp x.data)
        refine ⟨_, low, high, same, fun out => ?_, fun within_ => ?_⟩
        · rw [ClockTracker.sample_seen seen before, if_pos out]
          refine ⟨rfl, rfl, fun unsteady => ?_, fun steady => ?_⟩
          · simp [ClockStep.records, unsteady]
          · simp [ClockStep.records, steady]
        · rw [ClockTracker.sample_seen seen before, if_neg (Nat.not_lt.2 within_)]
          refine ⟨rfl, ?_, fun calm => ?_, fun unsteady four => ?_⟩
          · by_cases four : min ((s.chan c).clock.settle + 1) 4 = 4
            · have many : 4 ≤ (s.chan c).clock.settle + 1 := by omega
              simp [many]
            · have few : ¬ 4 ≤ (s.chan c).clock.settle + 1 := by omega
              simp [four, few]
          · rcases calm with steady | few
            · simp [ClockStep.records, steady]
            · have : min ((s.chan c).clock.settle + 1) 4 ≠ 4 := by omega
              cases status : (s.chan c).clock.status <;> simp [ClockStep.records, this]
          · have : min ((s.chan c).clock.settle + 1) 4 = 4 := by omega
            simp [ClockStep.records, this, unsteady]

end Sys2Proof.Certificates.Slice0

namespace Sys2Proof.Machine

/-! ## The cue record (section 5.1) -/

theorem toNat_append_byte {n : Nat} (x : BitVec n) (b : Byte) : (x ++ b).toNat = x.toNat * 256 + b.toNat := by
  rw [BitVec.toNat_append, ← Nat.shiftLeft_add_eq_or_of_lt b.isLt, Nat.shiftLeft_eq]

/-- Five bytes coded as a splice time, read as a number of which 33 bits count. -/
theorem cueValue_eq (p : List Byte) (i : Nat) (long : i + 5 ≤ p.length) : cueValue p i = BitVec.ofNat 33 (beField p i 5) := by
  obtain ⟨a, b, c, d, e, rest, h⟩ : ∃ a b c d e rest, p.drop i = a :: b :: c :: d :: e :: rest := by
    have len : 5 ≤ (p.drop i).length := by
      rw [List.length_drop]
      omega
    match p.drop i, len with
    | a :: b :: c :: d :: e :: rest, _ => exact ⟨a, b, c, d, e, rest, rfl⟩
  have byte (k : Nat) : p.getD (i + k) 0 = (p.drop i).getD k 0 := by simp [List.getD_eq_getElem?_getD]
  have value : beField p i 5 = ((((0 * 256 + a.toNat) * 256 + b.toNat) * 256 + c.toNat) * 256 + d.toNat) * 256 + e.toNat := by
    rw [beField, slice, h]
    rfl
  have zero := byte 0
  rw [Nat.add_zero] at zero
  rw [cueValue, zero, byte 1, byte 2, byte 3, byte 4, h, value]
  apply BitVec.eq_of_toNat_eq
  simp only [List.getD_cons_zero, List.getD_cons_succ, toNat_append_byte, BitVec.extractLsb'_toNat, BitVec.toNat_ofNat,
    Nat.shiftRight_zero]
  omega

theorem cueDurationAt_eq (p : List Byte) : cueDurationAt p = 8 + if (p.getD 7 0).getLsbD 7 then 5 else 0 := by
  unfold cueDurationAt cueHasTime
  split <;> rfl

theorem cueAvailAt_eq (p : List Byte) :
    cueAvailAt p = 8 + (if (p.getD 7 0).getLsbD 7 then 5 else 0) + if (p.getD 7 0).getLsbD 6 then 5 else 0 := by
  rw [cueAvailAt, cueDurationAt_eq]
  rfl

/-- The sorting of the payload of a cell that begins one and is not scrambled (R84 to R86). -/
def sortPayload (p : List Byte) : CueOutcome :=
  if p.getD 0 0 ≠ 0xE5#8 then .ignored
  else if p.length < 8 || decide (p.length < cueAvailAt p + 5) then .bad
  else if !cueCheck p then .bad
  else decodeCue p

theorem sortCue_ignored {cell : List Byte} (h : payloadStart cell = none ∨ payloadUnitStart cell = false) : sortCue cell = .ignored := by
  unfold sortCue
  rcases h with none_ | later
  · rw [none_]
  · split
    · rfl
    · simp [later]

theorem sortCue_of_start {cell : List Byte} {start : Nat} (h : payloadStart cell = some start) (begins : payloadUnitStart cell = true) :
    sortCue cell = if scrambling cell ≠ 0 then .bad else sortPayload ((cell.take 192).drop start) := by
  unfold sortCue
  rw [h]
  simp only [begins, Bool.not_true, Bool.false_eq_true, if_false]
  rfl

theorem sortPayload_short {p : List Byte} (mark : p.getD 0 0 = 0xE5#8) (short : p.length < 8 ∨ p.length < cueAvailAt p + 5) :
    sortPayload p = .bad := by
  unfold sortPayload
  rw [if_neg (not_not_intro mark), if_pos (by simpa using short)]

theorem sortPayload_long {p : List Byte} (mark : p.getD 0 0 = 0xE5#8) (long : 8 ≤ p.length) (whole : cueAvailAt p + 5 ≤ p.length) :
    sortPayload p =
      if (crc32 (p.take (cueAvailAt p + 1))).toNat = beField p (cueAvailAt p + 1) 4 then decodeCue p else .bad := by
  have notShort : ¬ (p.length < 8 || decide (p.length < cueAvailAt p + 5)) = true := by
    simp only [Bool.or_eq_true, decide_eq_true_eq]
    omega
  unfold sortPayload cueCheck
  rw [if_neg (not_not_intro mark), if_neg notShort]
  by_cases check : (crc32 (p.take (cueAvailAt p + 1))).toNat = beField p (cueAvailAt p + 1) 4 <;> simp [check]

/-- The kind that the code of a record names (section 5.1). -/
def cueKindIs (p : List Byte) (kind : CueKind) : Prop :=
  (kind = .out ∧ p.getD 2 0 = 1) ∨ (kind = .inn ∧ p.getD 2 0 = 2) ∨ (kind = .cancel ∧ p.getD 2 0 = 3)

theorem decodeCue_bad {p : List Byte} (bad : p.getD 1 0 ≠ 1 ∨ (∀ kind, ¬ cueKindIs p kind) ∨
    (cueHasDuration p = true ∧ 2 ^ 32 ≤ (cueValue p (cueDurationAt p)).toNat)) : decodeCue p = .bad := by
  unfold decodeCue
  dsimp only
  split
  · rfl
  · next version =>
    split
    · rfl
    · next small =>
      have none_ : ∀ kind, ¬ cueKindIs p kind := by
        rcases bad with other | none_ | ⟨has, large⟩
        · exact absurd other version
        · exact none_
        · exact absurd (by simpa [has] using large) small
      have code (k : Byte) (h : (p.getD 2 0).toNat = k.toNat) : p.getD 2 0 = k := BitVec.eq_of_toNat_eq h
      split
      · rfl
      · next kind e =>
        split at e
        · next h => exact absurd (.inl ⟨rfl, code 1 h⟩) (none_ .out)
        · next h => exact absurd (.inr (.inl ⟨rfl, code 2 h⟩)) (none_ .inn)
        · next h => exact absurd (.inr (.inr ⟨rfl, code 3 h⟩)) (none_ .cancel)
        · cases e

theorem decodeCue_accepted {p : List Byte} {kind : CueKind} (version : p.getD 1 0 = 1) (is : cueKindIs p kind)
    (small : cueHasDuration p = true → (cueValue p (cueDurationAt p)).toNat < 2 ^ 32) : decodeCue p =
      .accepted ⟨kind, beField p 3 4, if cueHasTime p then some (cueValue p 8) else none,
        if cueHasDuration p then some (cueValue p (cueDurationAt p)).toNat else none, (p.getD 7 0).getLsbD 5,
        (p.getD (cueAvailAt p) 0).toNat⟩ := by
  have notLarge : ¬ (cueHasDuration p && decide (2 ^ 32 ≤ (cueValue p (cueDurationAt p)).toNat)) = true := by
    simp only [Bool.and_eq_true, decide_eq_true_eq, not_and, Nat.not_le]
    exact small
  unfold decodeCue
  dsimp only
  rw [if_neg (not_not_intro version), if_neg notLarge]
  rcases is with ⟨rfl, code⟩ | ⟨rfl, code⟩ | ⟨rfl, code⟩ <;> rw [code] <;> rfl

end Sys2Proof.Machine

namespace Sys2Proof.Machine

/-! ## OUT cues (R81, R90 to R93) -/

theorem bindingFor_eq (t : Vector (Option Binding) 8) (avail : Nat) :
    bindingFor t avail = (slotOfKey t (some avail)).or (slotOfKey t none) := rfl

/-- R81, R91: with no binding for the avail number and none for ANY, none answers. -/
theorem bindingFor_eq_none {t : Vector (Option Binding) 8} {avail : Nat}
    (h : ∀ i : Fin 8, ∀ b, t[i] = some b → b.key ≠ some avail ∧ b.key ≠ none) : bindingFor t avail = none := by
  rw [bindingFor_eq, (slotOfKey_eq_none_iff ..).2 fun i b hb => (h i b hb).1, (slotOfKey_eq_none_iff ..).2 fun i b hb => (h i b hb).2]
  rfl

/-- R81, R91: the avail number's own binding answers, and ANY where there is none. -/
theorem bindingFor_eq_some {t : Vector (Option Binding) 8} {avail : Nat} {i : Fin 8} {b : Binding} (bound : t[i] = some b)
    (answers : b.key = some avail ∨ (b.key = none ∧ ∀ j : Fin 8, ∀ b', t[j] = some b' → b'.key ≠ some avail))
    (unique : ∀ j : Fin 8, ∀ b', t[j] = some b' → b'.key = b.key → j = i) : bindingFor t avail = some i := by
  rw [bindingFor_eq]
  rcases answers with own | ⟨any, others⟩
  · rw [slotOfKey_of_unique bound own fun j b' hj hk => unique j b' hj (hk.trans own.symm)]
    rfl
  · rw [(slotOfKey_eq_none_iff ..).2 others, slotOfKey_of_unique bound any fun j b' hj hk => unique j b' hj (hk.trans any.symm)]
    rfl

/-- R92: an event stands behind the events that are not after it, and before one that is. -/
theorem insertEvent_split (e : AvailEvent) (q : List AvailEvent) : ∃ front back, q = front ++ back ∧
    insertEvent e q = front ++ e :: back ∧ (∀ y ∈ front, isAfter y.time e.time = false) ∧
    ∀ y, back.head? = some y → isAfter y.time e.time = true := by
  induction q with
  | nil => exact ⟨[], [], rfl, rfl, nofun, nofun⟩
  | cons x q ih =>
    unfold insertEvent
    split
    · next after =>
      refine ⟨[], x :: q, rfl, rfl, nofun, fun y hy => ?_⟩
      cases hy
      exact after
    · next notAfter =>
      obtain ⟨front, back, whole, inserted, before, first⟩ := ih
      refine ⟨x :: front, back, by rw [whole]; rfl, by rw [inserted]; rfl, fun y hy => ?_, first⟩
      rcases List.mem_cons.1 hy with rfl | later
      · exact Bool.eq_false_iff.2 notAfter
      · exact before y later

/-- The event of an id that no event before it has is the first with that id. -/
theorem eraseP_event {front back : List AvailEvent} {e : AvailEvent} {event : Nat} (is : e.event = event)
    (others : ∀ y ∈ front, y.event ≠ event) : (front ++ e :: back).eraseP (fun x => x.event == event) = front ++ back := by
  rw [List.eraseP_append_right _ fun y hy => by simpa using others y hy, List.eraseP_cons_of_pos (by simpa using is)]

theorem find?_event {front back : List AvailEvent} {e : AvailEvent} {event : Nat} (is : e.event = event)
    (others : ∀ y ∈ front, y.event ≠ event) : (front ++ e :: back).find? (fun x => x.event == event) = some e := by
  rw [List.find?_append, List.find?_eq_none.2 fun y hy => by simpa using others y hy, List.find?_cons_of_pos (by simpa using is)]
  rfl

theorem Channel.queued_iff (ch : Channel) (event : Nat) : ch.queued event = true ↔ ∃ e ∈ ch.queue, e.event = event := by
  simp [Channel.queued]

theorem Channel.playing_iff (ch : Channel) (event : Nat) : ch.playing event = true ↔ ∃ a, ch.avail = some a ∧ a.event = event := by
  simp [Channel.playing, Option.any_eq_true]

/-- The binding has been used and the channel stands so. -/
def State.drawn (s : State) (c : Fin 32) (i : Fin 8) (b : Binding) (u : State) (ch : Channel) : State :=
  { u with
    bindings := s.bindings.set c ((s.bindingTable c).set i b.useOne)
    channels := s.channels.set c ch }

theorem State.outCue_duplicate {s : State} {c : Fin 32} {cue : Cue} {t : Pts} (h : (s.chan c).queued cue.event = true ∨
    (s.chan c).playing cue.event = true ∨ cue.event ∈ (s.chan c).recent) : s.outCue c cue t = s.countDuplicate c := by
  unfold State.outCue
  exact if_pos (by simpa [or_assoc] using h)

theorem State.outCue_fresh {s : State} {c : Fin 32} {cue : Cue} (t : Pts) (queued : (s.chan c).queued cue.event ≠ true)
    (playing : (s.chan c).playing cue.event ≠ true) (recent : cue.event ∉ (s.chan c).recent) : s.outCue c cue t =
      match bindingFor (s.bindingTable c) cue.avail with
      | none => s.record ⟨.cueUnbound, c, 0, cue.event, t.toNat, cue.avail⟩
      | some i =>
        match (s.bindingTable c)[i] with
        | none => s
        | some b => (s.setBindings c ((s.bindingTable c).set i b.useOne)).enqueue c
            ⟨cue.event, t, cue.duration, cue.autoReturn, cue.avail, b.pod, none⟩ := by
  unfold State.outCue
  dsimp only
  exact if_neg (by simp [queued, playing, recent])

/-- R92: an event joins a queue of fewer than four. -/
theorem State.enqueue_room {s : State} {c : Fin 32} {e : AvailEvent} (room : (s.chan c).queue.length < 4) :
    s.enqueue c e = s.mapChan c fun ch => { ch with queue := insertEvent e (s.chan c).queue } := by
  have length := (insertEvent_perm e (s.chan c).queue).length_eq
  rw [List.length_cons] at length
  unfold State.enqueue
  exact if_pos (by rw [length]; omega)

/-- A channel is changed, a record is handed over, and the channel is changed again. -/
theorem State.mapChan_record_mapChan (s : State) (c : Fin 32) (f g : Channel → Channel) (r : Record) :
    ((s.mapChan c f).record r).mapChan c g = { s.record r with channels := s.channels.set c (g (f (s.chan c))) } :=
  State.mapChan_mapChan (s.record r) c f g

/-- R93: a fifth event makes the queue lose one. -/
theorem State.enqueue_full {s : State} {c : Fin 32} {e lost : AvailEvent} {q : List AvailEvent} (full : (s.chan c).queue.length = 4)
    (which : lostEvent (s.chan c).config.policy e (insertEvent e (s.chan c).queue) = lost)
    (left : (insertEvent e (s.chan c).queue).eraseP (fun x => x.event == lost.event) = q) :
    s.enqueue c e = { s.record ⟨.cueLost, c, (s.chan c).config.policy.code, lost.event, lost.time.toNat, lost.avail⟩ with
      channels := s.channels.set c { s.chan c with queue := q, recent := joinRecent 4 (s.chan c).recent lost.event } } := by
  have length := (insertEvent_perm e (s.chan c).queue).length_eq
  rw [List.length_cons] at length
  unfold State.enqueue
  dsimp only
  rw [if_neg (by rw [length]; omega), which, left]
  exact State.mapChan_record_mapChan ..

/-- The binding has been used and the event has joined a queue with room. -/
theorem State.enqueue_used_room {s : State} {c : Fin 32} {table : Vector (Option Binding) 8} {e : AvailEvent} {q : List AvailEvent}
    (room : (s.chan c).queue.length < 4) (inserted : insertEvent e (s.chan c).queue = q) : (s.setBindings c table).enqueue c e =
      { s with bindings := s.bindings.set c table, channels := s.channels.set c { s.chan c with queue := q } } := by
  rw [← inserted]
  exact State.enqueue_room (s := s.setBindings c table) room

/-- The binding has been used and the queue has lost an event. -/
theorem State.enqueue_used_full {s : State} {c : Fin 32} {table : Vector (Option Binding) 8} {e lost : AvailEvent}
    {policy : FullPolicy} {q : List AvailEvent} {k : Nat} (full : (s.chan c).queue.length = 4)
    (is : (s.chan c).config.policy = policy) (code : policy.code = k)
    (which : lostEvent policy e (insertEvent e (s.chan c).queue) = lost)
    (left : (insertEvent e (s.chan c).queue).eraseP (fun x => x.event == lost.event) = q) : (s.setBindings c table).enqueue c e =
      { s.record ⟨.cueLost, c, k, lost.event, lost.time.toNat, lost.avail⟩ with
        bindings := s.bindings.set c table
        channels := s.channels.set c { s.chan c with queue := q, recent := joinRecent 4 (s.chan c).recent lost.event } } := by
  subst is code
  exact State.enqueue_full (s := s.setBindings c table) full which left

/-- R93, KEEP: the new event is the one lost. -/
theorem State.enqueue_used_keep {s : State} {c : Fin 32} {table : Vector (Option Binding) 8} {e : AvailEvent}
    (full : (s.chan c).queue.length = 4) (keep : (s.chan c).config.policy = .keep)
    (fresh : ∀ y ∈ (s.chan c).queue, y.event ≠ e.event) : (s.setBindings c table).enqueue c e =
      { s.record ⟨.cueLost, c, 1, e.event, e.time.toNat, e.avail⟩ with
        bindings := s.bindings.set c table
        channels := s.channels.set c { s.chan c with recent := joinRecent 4 (s.chan c).recent e.event } } := by
  obtain ⟨front, back, whole, inserted, -, -⟩ := insertEvent_split e (s.chan c).queue
  have left : (insertEvent e (s.chan c).queue).eraseP (fun x => x.event == e.event) = (s.chan c).queue := by
    rw [inserted, eraseP_event rfl fun y hy => fresh y (whole ▸ List.mem_append_left _ hy), whole]
  exact State.enqueue_used_full full keep rfl rfl left

theorem State.cueCell_accepted {s : State} {c : Fin 32} {cell : List Byte} {cue : Cue} (h : sortCue cell = .accepted cue) :
    s.cueCell c cell = s.takeCue c cue := by
  rw [State.cueCell, h]

theorem State.takeCue_out {s : State} {c : Fin 32} {cue : Cue} {t : Pts} (kind : cue.kind = .out)
    (time : cue.time.or (s.chan c).ingestPts = some t) : s.takeCue c cue = s.outCue c cue t := by
  rw [State.takeCue, kind]
  dsimp only
  rw [time]

theorem State.takeCue_in {s : State} {c : Fin 32} {cue : Cue} {t : Pts} (kind : cue.kind = .inn)
    (time : cue.time.or (s.chan c).ingestPts = some t) : s.takeCue c cue = s.inCue c cue t := by
  rw [State.takeCue, kind]
  dsimp only
  rw [time]

theorem State.takeCue_cancel {s : State} {c : Fin 32} {cue : Cue} (kind : cue.kind = .cancel) : s.takeCue c cue = s.cancelCue c cue := by
  rw [State.takeCue, kind]

theorem State.takeCue_untimed {s : State} {c : Fin 32} {cue : Cue} (kind : cue.kind ≠ .cancel)
    (time : cue.time.or (s.chan c).ingestPts = none) : s.takeCue c cue = s.countBadCue c := by
  rw [State.takeCue]
  split
  · next e => exact absurd e kind
  · rw [time]
  · rw [time]

/-- R94, R95: an id that names nothing is a duplicate when it is recent, and CUE_BAD otherwise. -/
theorem State.unmatchedCue_spec (s : State) (c : Fin 32) (event : Nat) :
    (event ∈ (s.chan c).recent → s.unmatchedCue c event = s.countDuplicate c) ∧
      (event ∉ (s.chan c).recent → s.unmatchedCue c event = s.countBadCue c) := by
  unfold State.unmatchedCue
  exact ⟨fun h => if_pos (by simpa using h), fun h => if_neg (by simpa using h)⟩

/-- The return time is set in the one queued event with the id. -/
theorem map_setReturn {front back : List AvailEvent} {e : AvailEvent} {event : Nat} (t : Pts) (is : e.event = event)
    (others : ∀ y ∈ front ++ back, y.event ≠ event) :
    (front ++ e :: back).map (fun y => if y.event = event then { y with ret := some t } else y) =
      front ++ { e with ret := some t } :: back := by
  have same (l : List AvailEvent) (h : ∀ y ∈ l, y.event ≠ event) :
      l.map (fun y => if y.event = event then { y with ret := some t } else y) = l := by
    conv_rhs => rw [← List.map_id l]
    exact List.map_congr_left fun y hy => if_neg (h y hy)
  rw [List.map_append, List.map_cons, same front fun y hy => others y (List.mem_append_left _ hy),
    same back fun y hy => others y (List.mem_append_right _ hy), if_pos is]

/-- R103: the event of an id that no event before it has is retired with its EVENT_MISSED. -/
theorem State.retire_split {s : State} {c : Fin 32} {front back : List AvailEvent} {e : AvailEvent} (why : MissReason) (second : Nat)
    (queue : (s.chan c).queue = front ++ e :: back) (others : ∀ y ∈ front, y.event ≠ e.event) : s.retire c e why second =
      { s.record ⟨.eventMissed, c, why.code, e.event, e.time.toNat, second⟩ with
        channels := s.channels.set c
          { s.chan c with queue := front ++ back, recent := joinRecent 4 (s.chan c).recent e.event } } := by
  have left := eraseP_event (back := back) (rfl : e.event = e.event) others
  rw [← queue] at left
  rw [← left, State.retire]
  exact State.mapChan_record_mapChan ..

end Sys2Proof.Machine

namespace Sys2Proof.Certificates.Slice0
open Sys2Proof.Machine

/-- Settles O15: the cell is sorted by the tests in their order, and an accepted cue is acted on by its kind. -/
theorem outCuesJoinTheQueue : Obligations.OutCuesJoinTheQueue := by
  intro s c cell bad
  refine ⟨fun e => ?_, fun e => ?_, sortCue_ignored, fun start begins unit => ?_, fun cue accepted => ?_⟩
  · rw [State.cueCell, e]
  · rw [State.cueCell, e]
    rfl
  · intro p flags timeLength rest duration kindIs
    have sorted := sortCue_of_start begins unit
    have place : cueAvailAt p = rest := cueAvailAt_eq p
    refine ⟨fun scrambled => sorted.trans (if_pos scrambled), fun clear other => ?_, fun clear mark => ⟨fun short => ?_, fun long whole => ?_⟩⟩
    · rw [sorted, if_neg (not_not_intro clear)]
      exact if_pos other
    · rw [sorted, if_neg (not_not_intro clear)]
      exact sortPayload_short mark (place ▸ short)
    · have judged := sortPayload_long mark long (place ▸ whole)
      rw [sorted, if_neg (not_not_intro clear), judged, place]
      have durationAt : cueDurationAt p = 8 + timeLength := cueDurationAt_eq p
      have durationIs (has : flags.getLsbD 6 = true) : cueValue p (cueDurationAt p) = duration := by
        have : rest = 8 + timeLength + 5 := congrArg (8 + timeLength + ·) (if_pos has)
        rw [cueValue_eq p _ (by omega), durationAt]
      have timeIs (has : flags.getLsbD 7 = true) : cueValue p 8 = BitVec.ofNat 33 (beField p 8 5) := by
        have : timeLength = 5 := if_pos has
        have : 8 + timeLength ≤ rest := Nat.le_add_right ..
        exact cueValue_eq p 8 (by omega)
      refine ⟨fun wrong => if_neg wrong, fun right => ?_⟩
      rw [if_pos right]
      refine ⟨fun fault => decodeCue_bad ?_, fun kind version is small => ?_⟩
      · exact fault.imp_right fun h => h.imp_right fun ⟨has, large⟩ => ⟨has, (durationIs has).symm ▸ large⟩
      · have duration_ : (if cueHasDuration p = true then some (cueValue p (cueDurationAt p)).toNat else none) =
            if flags.getLsbD 6 = true then some duration.toNat else none := by
          refine ite_congr rfl (fun has => ?_) fun _ => rfl
          rw [durationIs has]
        have time_ : (if cueHasTime p = true then some (cueValue p 8) else none) =
            if flags.getLsbD 7 = true then some (BitVec.ofNat 33 (beField p 8 5)) else none := by
          refine ite_congr rfl (fun has => ?_) fun _ => rfl
          rw [timeIs has]
        rw [decodeCue_accepted version is fun has => (durationIs has).symm ▸ small has, duration_, time_, place]
  · intro playing queued duplicate returning unmatched
    have taken := State.cueCell_accepted (s := s) (c := c) accepted
    have queuedIff : (s.chan c).queued cue.event = true ↔ queued := (s.chan c).queued_iff cue.event
    have playingIff : (s.chan c).playing cue.event = true ↔ playing := (s.chan c).playing_iff cue.event
    have asUnmatched (h : s.takeCue c cue = s.unmatchedCue c cue.event) : unmatched := by
      obtain ⟨recentDuplicate, notRecent⟩ := s.unmatchedCue_spec c cue.event
      exact ⟨fun recent => taken.trans (h.trans (recentDuplicate recent)), fun fresh => taken.trans (h.trans (notRecent fresh))⟩
    rw [taken]
    refine ⟨fun kind untimed => State.takeCue_untimed kind untimed, fun time kind timed => ?_, fun time kind timed => ?_, fun kind => ?_⟩
    · rw [State.takeCue_out kind timed]
      refine ⟨fun known => State.outCue_duplicate (by rwa [queuedIff, playingIff]), fun notQueued notPlaying fresh => ?_⟩
      rw [State.outCue_fresh time (queuedIff.not.2 notQueued) (playingIff.not.2 notPlaying) fresh]
      refine ⟨fun unbound => ?_, fun i b bound answers unique => ?_⟩
      · rw [bindingFor_eq_none unbound]
      · rw [bindingFor_eq_some bound answers unique]
        dsimp only
        rw [bound]
        obtain ⟨front, back, whole, inserted, before, first⟩ :=
          insertEvent_split ⟨cue.event, time, cue.duration, cue.autoReturn, cue.avail, b.pod, none⟩ (s.chan c).queue
        refine ⟨front, back, whole, before, first, fun room => ?_, fun full policy => ?_, fun four lost full apart policy split_ => ?_⟩
        · exact State.enqueue_used_room room inserted
        · exact State.enqueue_used_keep full policy fun y hy is => notQueued ⟨y, hy, is⟩
        · have ids : ((four ++ [lost]).map AvailEvent.event).Nodup := by
            obtain ⟨-, -, nodup⟩ := apart
            obtain ⟨queueIds, -, -⟩ := List.nodup_append.1 (List.nodup_append.1 nodup).1
            rw [← split_, ← inserted]
            refine ((insertEvent_perm _ _).map _).nodup_iff.2 (List.nodup_cons.2 ⟨fun mem => notQueued ?_, queueIds⟩)
            simpa using mem
          have others (y : AvailEvent) (hy : y ∈ four) : y.event ≠ lost.event := by
            rw [List.map_append, List.nodup_append] at ids
            exact ids.2.2 _ (List.mem_map_of_mem hy) _ (List.mem_singleton.2 rfl)
          refine State.enqueue_used_full full policy rfl ?_ ?_
          · rw [inserted.trans split_]
            exact List.getLastD_concat ..
          · rw [inserted.trans split_, eraseP_event rfl others, List.append_nil]
    · rw [State.takeCue_in kind timed]
      unfold State.inCue
      refine ⟨fun plays => ?_, fun front e back notPlaying whole is others => ?_, fun notPlaying notQueued => ?_⟩
      · exact if_pos (playingIff.2 plays)
      · have isQueued : queued := ⟨e, by rw [whole]; simp, is⟩
        rw [if_neg (playingIff.not.2 notPlaying), if_pos (queuedIff.2 isQueued), ← map_setReturn time is others, ← whole]
        rfl
      · refine asUnmatched ((State.takeCue_in kind timed).trans ?_)
        unfold State.inCue
        rw [if_neg (playingIff.not.2 notPlaying), if_neg (queuedIff.not.2 notQueued)]
    · rw [State.takeCue_cancel kind]
      unfold State.cancelCue
      have none_ (notQueued : ¬ queued) : (s.chan c).queue.find? (fun e => e.event == cue.event) = none :=
        List.find?_eq_none.2 fun y hy => by simpa using fun is => notQueued ⟨y, hy, is⟩
      refine ⟨fun front e back whole is others => ?_, fun notQueued plays => ⟨fun time some_ => ?_, fun untimed => ?_⟩,
        fun notQueued notPlaying => ?_⟩
      · have before (y : AvailEvent) (hy : y ∈ front) : y.event ≠ cue.event := others y (List.mem_append_left _ hy)
        have found : (s.chan c).queue.find? (fun e => e.event == cue.event) = some e := whole ▸ find?_event is before
        dsimp only
        rw [found, ← is]
        exact State.retire_split .cancelled 0 whole fun y hy => is ▸ before y hy
      · dsimp only
        rw [none_ notQueued, if_pos (playingIff.2 plays), some_]
        rfl
      · dsimp only
        rw [none_ notQueued, if_pos (playingIff.2 plays), untimed]
        rfl
      · refine asUnmatched ((State.takeCue_cancel kind).trans ?_)
        unfold State.cancelCue
        dsimp only
        rw [none_ notQueued, if_neg (playingIff.not.2 notPlaying)]

end Sys2Proof.Certificates.Slice0

namespace Sys2Proof.Machine

/-! ## The directive unit (R186 to R188) -/

theorem State.mayFetch_iff {s : State} (running : s.boot = .running) : s.mayFetch = true ↔
    s.dir.head ≠ s.dir.tail ∧ s.dir.unconsumed + s.dir.owed < 64 ∧ s.dir.fetching = false ∧ s.dir.dispatched = none := by
  simp [State.mayFetch, running, and_assoc]

theorem State.directiveBase_of_map {s : State} {m : RegionMap} (map : s.map = some m) : s.directiveBase = m.directiveBase := by
  simp only [State.directiveBase, map]

theorem State.responseBase_of_map {s : State} {m : RegionMap} (map : s.map = some m) : s.responseBase = m.responseBase := by
  simp only [State.responseBase, map]

/-- A completed fetch of this transaction hands over what `parseDirective` reads. -/
theorem exec_fetchComplete {s : State} {x : Txn} {slot : Nat} (routed : s.bus.issuedTxn x.id = some x)
    (owner : x.owner = .directiveFetch slot) (a : Answer) :
    exec (.fetchComplete x.id a) s = .next (((s.left x).mapDir DirectiveUnit.fetched).dispatch slot a) := by
  refine congrArg Host.Outcome.next ((State.onResponse_self _ routed owner (by simp)).trans ?_)
  simp only [owner, State.completeTxn_eq_left]

/-- R187: a kind of 1 to 15 spells its directive; every other kind spells none. -/
theorem parseDirective_unknown {record : List Byte} {slot : Nat} (h : recordKind record = 0 ∨ 15 < recordKind record) :
    parseDirective record slot = none := by
  unfold parseDirective
  split
  case h_16 => rfl
  all_goals omega

theorem State.dispatch_unknown (s : State) {record : List Byte} {slot : Nat} (h : recordKind record = 0 ∨ 15 < recordKind record) :
    s.dispatch slot (.ok record) = s.respond (recordSeq record) (recordKind record) .unknownKind 0 slot := by
  simp only [State.dispatch, parseDirective_unknown h]

theorem State.dispatch_known (s : State) {record : List Byte} {slot : Nat} {c : Instr} (h : parseDirective record slot = some c) :
    s.dispatch slot (.ok record) = { s with dir := { s.dir with dispatched := some c } } := by
  simp only [State.dispatch, h, State.mapDir]

/-- The fields of a response entry (section 11.1). -/
theorem responseBytes_fields (seq kind detail slot house : Nat) (r : DirectiveResult) :
    (responseBytes seq kind r detail slot house).length = 16 ∧
    leField (responseBytes seq kind r detail slot house) 0 2 = seq % 65536 ∧
    leField (responseBytes seq kind r detail slot house) 2 1 = kind % 256 ∧
    leField (responseBytes seq kind r detail slot house) 3 1 = r.code ∧
    leField (responseBytes seq kind r detail slot house) 4 1 = detail % 256 ∧
    leField (responseBytes seq kind r detail slot house) 5 1 = slot % 256 ∧
    leField (responseBytes seq kind r detail slot house) 6 2 = 0 ∧
    leField (responseBytes seq kind r detail slot house) 8 4 = house % 2 ^ 32 ∧
    leField (responseBytes seq kind r detail slot house) 12 4 = 0 := by
  have code : r.code % 256 ^ 1 = r.code := by cases r <;> rfl
  exact ⟨rfl, leNat_leBytes 2 _, leNat_leBytes 1 _, (leNat_leBytes 1 _).trans code, leNat_leBytes 1 _, leNat_leBytes 1 _,
    leNat_leBytes 2 0, leNat_leBytes 4 _, leNat_leBytes 4 0⟩

end Sys2Proof.Machine

namespace Sys2Proof.Certificates.Slice0
open Sys2Proof.Machine

/-- Settles O24. -/
theorem directiveFetchReadsTheHeadSlot : Obligations.DirectiveFetchReadsTheHeadSlot := by
  intro s m map running
  refine ⟨fun head room idle free => ?_, fun busy => ?_⟩
  · have may := (State.mayFetch_iff running).2 ⟨head, room, idle, free⟩
    refine congrArg Host.Outcome.next ((if_pos may).trans ?_)
    rw [State.directiveBase_of_map map]
    rfl
  · have not : ¬ s.mayFetch = true := by
      rw [State.mayFetch_iff running]
      rintro ⟨head, room, idle, free⟩
      rcases busy with h | h | h | h
      · exact head h
      · omega
      · simp [idle] at h
      · exact h free
    exact congrArg Host.Outcome.next (if_neg not)

/-- Settles O25. -/
theorem fetchedDirectivesAreDispatched : Obligations.FetchedDirectivesAreDispatched := by
  intro s x slot routed owner fetched
  have run := exec_fetchComplete routed owner
  refine ⟨run .error, fun record => ?_⟩
  intro f seq handed
  have known (kind : Nat) (c : Instr) (spells : f 2 1 = kind → parseDirective record slot = some c) : handed kind c :=
    fun h => (run (.ok record)).trans (congrArg Host.Outcome.next (State.dispatch_known _ (spells h)))
  refine ⟨fun h => (run (.ok record)).trans (congrArg Host.Outcome.next (State.dispatch_unknown _ h)), ?_⟩
  refine ⟨?_, ?_, ?_, ?_, ?_, ?_, ?_, ?_, ?_, ?_, ?_, ?_, ?_, ?_, ?_⟩
  all_goals
    refine known _ _ fun kind => ?_
    change recordKind record = _ at kind
    simp only [parseDirective, kind]
    rfl

/-- Settles O26. -/
theorem responsesAreWrittenAndPublished : Obligations.ResponsesAreWrittenAndPublished := by
  intro s m map
  refine ⟨fun seq kind detail slot r => ?_, fun x a routed => ⟨fun entry => ?_, fun tail => ?_⟩⟩
  · obtain ⟨len, f0, f2, f3, f4, f5, f6, f8, f12⟩ := responseBytes_fields seq kind detail slot s.house r
    refine ⟨_, len, f0, f2, f3, f4, f5, f6, f8, f12, ?_⟩
    have base : ({ s with dir := { s.dir with owed := s.dir.owed - 1 } } : State).responseBase = m.responseBase :=
      State.responseBase_of_map map
    unfold State.respond State.putResponse
    rw [base]
    rfl
  · refine congrArg Host.Outcome.next ((State.onResponse_self _ routed entry (by decide)).trans ?_)
    have base (d : DirectiveUnit) : ({ s.left x with dir := d } : State).responseBase = m.responseBase :=
      State.responseBase_of_map map
    simp only [entry, State.completeTxn_eq_left, State.countWriteError]
    split
    · simp only [State.writeTailWord, State.mapDir, base]
      rfl
    · simp only [State.writeTailWord, State.responseBase_of_map (s := s.left x) map]
      rfl
  · refine ⟨_, congrArg Host.Outcome.next (State.onResponse_self _ routed tail (by decide)), ?_, ?_⟩
    · simp [tail, State.mapDir, State.attn]
    · simp only [tail, State.completeTxn_eq_left, State.countWriteError]
      split <;> rfl

end Sys2Proof.Certificates.Slice0

namespace Sys2Proof.Machine

/-! ## The receiver waits, and is heard (R139 to R144) -/

section
variable {s : State}

theorem exec_rateMark (running : s.boot = .running) (state : s.receiver.state = .rateMark) (w : Wave) :
    exec (.rateMark w) s = .next (s.onStartEdge w s.receiver.nominal fun s => s.takeRateMark w) :=
  congrArg Host.Outcome.next (if_pos (by simp [State.receiving, running, state]))

theorem exec_rateTimeout (running : s.boot = .running) (state : s.receiver.state = .rateMark) (w : Wave) :
    exec (.rateTimeout w) s = .next (s.onStartEdge w s.receiver.nominal fun s => s.rateTimeout w) :=
  congrArg Host.Outcome.next (if_pos (by simp [State.receiving, running, state]))

theorem exec_bodyByte (running : s.boot = .running) (state : s.receiver.state = .body) {p : Nat}
    (period : s.receiver.period = some p) (w : Wave) :
    exec (.bodyByte w) s = .next (s.onStartEdge w p fun s => s.takeBodyByte w p) := by
  refine congrArg Host.Outcome.next ((if_pos (by simp [State.receiving, running, state])).trans ?_)
  simp only [period]

/-- R139, R152: a start edge after the idle limit meets the abandoned message. -/
theorem State.onStartEdge_late {idle : Nat} (from_ : s.receiver.idleFrom = some idle) {w : Wave} {p : Nat}
    (late : idle + 20 * p < w.fall) (f : State → State) : s.onStartEdge w p f = s.idleExpired idle p := by
  have after : ¬ w.fall ≤ idle := by omega
  simp only [State.onStartEdge, from_, startTest, after, late, if_true, if_false]

/-- R139: a start edge within the idle limit is false, or the byte's. -/
theorem State.onStartEdge_met {idle : Nat} (from_ : s.receiver.idleFrom = some idle) {w : Wave} {p : Nat}
    (after : idle < w.fall) (within_ : w.fall ≤ idle + 20 * p) (f : State → State) : s.onStartEdge w p f =
      if (sampleBit w p 0).value = true then s.atTime (sampledAt w p 0) else f s := by
  have notEarly : ¬ w.fall ≤ idle := by omega
  have notLate : ¬ idle + 20 * p < w.fall := by omega
  cases test : (sampleBit w p 0).value <;>
    simp only [State.onStartEdge, from_, startTest, notEarly, notLate, test, if_true, if_false, Bool.false_eq_true]

theorem sampledAt_zero (w : Wave) (p : Nat) : sampledAt w p 0 = w.fall + 9 * p / 16 := by
  simp [sampledAt, sampleTimes]

end

/-! ## The rate mark (R141 to R143) -/

/-- The toggles of the wave after the start bit's third sample, each with its place: a rise in an even one. -/
def recordedToggles (w : Wave) (n : Nat) : List (Nat × Nat) :=
  w.toggles.zipIdx.filter fun e => w.fall + 9 * n / 16 < e.1

/-- The fourth falling edge, counting the start edge as the first. -/
def fourthToggle (w : Wave) (n : Nat) : Option (Nat × Nat) :=
  ((recordedToggles w n).filter fun e => ¬ e.2 % 2 = 0)[2]?

/-- The edge is where the `k`th recorded edge of a rate mark of period `m` stands. -/
def nearEdge (w : Wave) (m k : Nat) (e : Nat × Nat) : Prop :=
  (e.2 % 2 = 0 ↔ k % 2 = 0) ∧ ((e.1 : Int) - (w.fall + (k + 2) * m : Nat)).natAbs ≤ m / 2

theorem recordedEdges_eq (w : Wave) (n : Nat) :
    recordedEdges w n = (recordedToggles w n).map fun e => (e.1, e.2 % 2 == 0) := by
  simp only [recordedEdges, recordedToggles, sampledAt_zero, List.filter_map]
  rfl

theorem fourthFall_eq (w : Wave) (n : Nat) : fourthFall w n =
    (fourthToggle w n).bind fun e => if e.1 ≤ w.fall + 8 * n then some e.1 else none := by
  have falls : ((recordedEdges w n).filter fun e => !e.2)[2]? = (fourthToggle w n).map fun e => (e.1, e.2 % 2 == 0) := by
    rw [recordedEdges_eq, List.filter_map, List.getElem?_map]
    refine congrArg (Option.map _) (congrArg (·[2]?) (List.filter_congr fun e _ => ?_))
    by_cases h : e.2 % 2 = 0 <;> simp [h]
  unfold fourthFall
  rw [falls]
  cases fourthToggle w n <;> rfl

theorem fourthFall_none {w : Wave} {n : Nat} (h : ∀ e, fourthToggle w n = some e → w.fall + 8 * n < e.1) :
    fourthFall w n = none := by
  rw [fourthFall_eq]
  cases e : fourthToggle w n with
  | none => rfl
  | some e' => exact if_neg (Nat.not_le.2 (h e' e))

theorem fourthFall_some {w : Wave} {n : Nat} {e : Nat × Nat} (h : fourthToggle w n = some e) (le : e.1 ≤ w.fall + 8 * n) :
    fourthFall w n = some e.1 := by
  rw [fourthFall_eq, h]
  exact if_pos le

theorem timeGap_eq (a b : Nat) : timeGap a b = ((a : Int) - b).natAbs := by
  unfold timeGap
  omega

theorem withinTolerance_iff (m n : Nat) : withinTolerance m n = true ↔ ((m : Int) - n).natAbs * 8 ≤ n := by
  rw [withinTolerance, timeGap_eq, decide_eq_true_eq]

theorem edgesInPlace_iff_near (w : Wave) (n m : Nat) : edgesInPlace w n m = true ↔
    ∀ k < 5, ∃ x, (recordedToggles w n)[k]? = some x ∧ nearEdge w m k x := by
  rw [edgesInPlace_iff]
  refine forall₂_congr fun k _ => ?_
  simp only [recordedEdges_eq, List.getElem?_map, Option.map_eq_some_iff, nearEdge]
  constructor
  · rintro ⟨_, ⟨x, h, rfl⟩, rises, near⟩
    refine ⟨x, h, ?_, timeGap_eq _ _ ▸ near⟩
    simpa using Bool.eq_iff_iff.1 rises
  · rintro ⟨x, h, rises, near⟩
    refine ⟨_, ⟨x, h, rfl⟩, ?_, (timeGap_eq _ _).symm ▸ near⟩
    exact Bool.eq_iff_iff.2 (by simpa using rises)

/-- R150: a message abandoned at this moment with these counts. -/
def State.gaveUp (s : State) (house : Nat) (counts : ReceiverCounts) : State :=
  { s with
    house := max s.house house
    receiver := { s.receiver with state := .standby, period := none, idleFrom := none, counts := counts } }

theorem State.abandonMessage_eq (s : State) (t : Nat) (why : AbandonReason) :
    (s.atTime t).abandonMessage why = s.gaveUp t (s.receiver.counts.abandoned why) := rfl

section
variable {s : State} {w : Wave}

theorem State.takeRateMark_none (h : fourthFall w s.receiver.nominal = none) :
    s.takeRateMark w = (s.atTime (w.fall + 8 * s.receiver.nominal)).abandonMessage .rate := by
  simp only [State.takeRateMark, h]

theorem State.takeRateMark_some {t : Nat} (h : fourthFall w s.receiver.nominal = some t) {m : Nat}
    (period : m = (t - w.fall + 3) / 7) : s.takeRateMark w =
      if ¬ (withinTolerance m s.receiver.nominal = true ∧ edgesInPlace w s.receiver.nominal m = true) then
        (s.atTime t).abandonMessage .rate
      else if (sampleBit w m 8).value = false then (s.atTime (sampledAt w m 8)).abandonMessage .rate
      else if (sampleBit w m 9).value = false then (s.atTime (sampledAt w m 9)).abandonMessage .framing
      else (s.atTime (sampledAt w m 9)).mapReceiver fun r => r.acceptMark w m := by
  subst period
  simp only [State.takeRateMark, h, measuredPeriod, Bool.or_eq_true, Bool.not_eq_true', ← Bool.not_eq_true, not_and_or]

theorem ReceiverCounts.noted_eq (c : ReceiverCounts) (noise : Bool) :
    c.noted noise = { c with noise := if noise = true then min (c.noise + 1) 65535 else c.noise } := by
  unfold ReceiverCounts.noted
  split <;> rfl

end

end Sys2Proof.Machine

namespace Sys2Proof.Certificates.Slice0
open Sys2Proof.Machine

/-- Settles O49. -/
theorem attentionOpensAMessage : Obligations.AttentionOpensAMessage := by
  intro s fall rise
  refine ⟨fun began low running state reading counted => ?_, fun h => ?_, fun running state => ?_, fun h => ?_⟩
  · have from_ : s.receiver.lowFrom fall = low := by
      rw [Receiver.lowFrom_eq reading]
      omega
    refine congrArg Host.Outcome.next ((if_pos ?_).trans ?_)
    · rcases state with state | state <;> simp [State.receiving, running, state]
    · rw [from_]
      rfl
  · refine congrArg Host.Outcome.next (if_neg ?_)
    simp only [State.receiving, Bool.and_eq_true, Bool.or_eq_true, beq_iff_eq]
    rintro ⟨running, state⟩
    rcases h with h | ⟨h, h'⟩
    · exact h running
    · exact state.elim h h'
  · exact congrArg Host.Outcome.next (if_pos (by simp [State.receiving, running, state]))
  · refine congrArg Host.Outcome.next (if_neg ?_)
    simp only [State.receiving, Bool.and_eq_true, beq_iff_eq]
    rintro ⟨running, state⟩
    exact h.elim (· running) (· state)

/-- Settles O51. -/
theorem idleLimitTruncates : Obligations.IdleLimitTruncates := by
  intro s
  refine ⟨fun h => ?_, fun idle p w running from_ counted => ?_⟩
  · refine congrArg Host.Outcome.next ?_
    split
    · next receiving =>
      have running : s.boot = .running := by simpa [State.receiving] using receiving
      split
      · next p idle period from_ =>
        rcases h with h | h | ⟨h, h'⟩
        · exact absurd running h
        · rw [h] at from_
          cases from_
        · unfold Receiver.idlePeriod at period
          split at period
          · exact absurd ‹_› h
          · exact absurd ‹_› h'
          all_goals cases period
      · rfl
    · rfl
  · refine ⟨?_, fun late => ⟨fun state => ?_, fun state => ?_⟩⟩
    · have period : s.receiver.idlePeriod = some p := by
        rcases counted with ⟨state, nominal⟩ | ⟨state, measured⟩
        · simp only [Receiver.idlePeriod, state, nominal]
        · simp only [Receiver.idlePeriod, state, measured]
      refine congrArg Host.Outcome.next ((if_pos (by simp [State.receiving, running])).trans ?_)
      simp only [period, from_]
      rfl
    · have nominal : p = s.receiver.nominal := by
        rcases counted with ⟨_, h⟩ | ⟨h, _⟩
        · exact h
        · rw [state] at h
          cases h
      subst nominal
      exact (exec_rateMark running state w).trans (congrArg Host.Outcome.next (State.onStartEdge_late from_ late _))
    · have period : s.receiver.period = some p := by
        rcases counted with ⟨h, _⟩ | ⟨_, h⟩
        · rw [state] at h
          cases h
        · exact h
      exact (exec_bodyByte running state period w).trans (congrArg Host.Outcome.next (State.onStartEdge_late from_ late _))

/-- Settles O50. -/
theorem rateMarkIsMeasured : Obligations.RateMarkIsMeasured := by
  intro s w idle running state from_ after within_ n recorded rises fourth near abandoned rate
  have mark := exec_rateMark running state w
  have timeout := exec_rateTimeout running state w
  rw [State.onStartEdge_met from_ after within_] at mark timeout
  refine ⟨fun high => ?_, fun low => ?_⟩
  · rw [mark, if_pos high, sampledAt_zero]
    rfl
  · have notHigh : ¬ (sampleBit w s.receiver.nominal 0).value = true := by
      rw [show (sampleBit w s.receiver.nominal 0).value = false from low]
      decide
    rw [if_neg notHigh] at mark timeout
    refine ⟨fun late => ?_, fun e m fall inTime period => ?_⟩
    · have none_ : fourthFall w s.receiver.nominal = none := fourthFall_none late
      refine ⟨?_, ?_⟩
      · rw [mark, State.takeRateMark_none none_]
        rfl
      · rw [timeout, State.rateTimeout, none_]
        rfl
    · have some_ : fourthFall w s.receiver.nominal = some e.1 := fourthFall_some fall inTime
      rw [State.takeRateMark_some some_ period] at mark
      refine ⟨?_, fun bad => ?_, fun tolerance edges => ⟨fun b8 => ?_, fun b8 b9 => ?_, fun b8 b9 => ?_⟩⟩
      · rw [timeout, State.rateTimeout, some_]
        rfl
      · rw [mark, if_pos]
        · rfl
        · rw [withinTolerance_iff, edgesInPlace_iff_near]
          rintro ⟨tolerance, edges⟩
          rcases bad with bad | ⟨k, lt, bad⟩
          · exact absurd tolerance (Nat.not_le.2 (by exact_mod_cast bad))
          · obtain ⟨x, at_, place⟩ := edges k lt
            exact bad x at_ place
      · rw [mark, if_neg (not_not.2 ⟨(withinTolerance_iff ..).2 tolerance, (edgesInPlace_iff_near ..).2 edges⟩), if_pos b8]
        rfl
      · rw [mark, if_neg (not_not.2 ⟨(withinTolerance_iff ..).2 tolerance, (edgesInPlace_iff_near ..).2 edges⟩), if_neg (by simp [b8]), if_pos b9]
        rfl
      · rw [mark, if_neg (not_not.2 ⟨(withinTolerance_iff ..).2 tolerance, (edgesInPlace_iff_near ..).2 edges⟩), if_neg (by simp [b8]), if_neg (by simp [b9])]
        simp only [State.mapReceiver, Receiver.acceptMark, ReceiverCounts.noted_eq, rateMarkNoise]
        rfl

end Sys2Proof.Certificates.Slice0

namespace Sys2Proof.Machine

/-! ## Body bytes (R138, R144 to R149) -/

/-- R138: the data bits gathered so far stand in their places. -/
theorem getLsbD_foldl_dataBits (w : Wave) (p n : Nat) (le : n ≤ 8) {k : Nat} (lt : k < 8) :
    ((List.range n).foldl (fun (b : Byte) k => if (sampleBit w p (k + 1)).value then b ||| (1#8 <<< k) else b) 0).getLsbD k =
      (decide (k < n) && (sampleBit w p (k + 1)).value) := by
  induction n with
  | zero => simp
  | succ n ih =>
    have one : (1#8 <<< n).getLsbD k = decide (k = n) := by
      simp only [BitVec.getLsbD_shiftLeft, BitVec.getLsbD_one, lt, decide_true, Bool.true_and]
      by_cases h : k = n
      · simp [h]
      · simp only [h, decide_false, Bool.and_eq_false_imp, Bool.not_eq_true', decide_eq_false_iff_not]
        omega
    simp only [List.range_succ, List.foldl_append, List.foldl_cons, List.foldl_nil]
    split
    · next value =>
      rw [BitVec.getLsbD_or, ih (by omega), one]
      by_cases h : k = n
      · simp [h, value]
      · have : k < n + 1 ↔ k < n := by omega
        simp [h, this]
    · next value =>
      rw [ih (by omega)]
      by_cases h : k = n
      · simp [h, value]
      · have : k < n + 1 ↔ k < n := by omega
        simp [this]

theorem dataByte_getLsbD (w : Wave) (p : Nat) {k : Nat} (lt : k < 8) :
    (dataByte w p).getLsbD k = (sampleBit w p (k + 1)).value := by
  rw [dataByte, getLsbD_foldl_dataBits w p 8 le_rfl lt]
  simp [lt]

theorem noiseMark_iff (w : Wave) (p : Nat) : noiseMark w p = true ↔ ∃ k < 10, (sampleBit w p k).noisy = true := by
  simp [noiseMark]

theorem beField_byte (b : List Byte) (i : Nat) : beField b i 1 = (b.getD i 0).toNat := by
  rw [beField, slice, List.getD_eq_getElem?_getD, ← List.head?_drop]
  cases b.drop i <;> simp [beNat]

theorem beField_byte_eq_zero_iff (b : List Byte) (i : Nat) : beField b i 1 = 0 ↔ b.getD i 0 = 0 := by
  rw [beField_byte, BitVec.toNat_eq]
  rfl

theorem Receiver.zoneOurs_iff (r : Receiver) :
    r.zoneOurs = true ↔ beField r.buffer 1 2 = 0xFFFF ∨ beField r.buffer 1 2 ∈ r.zones := by
  simp [Receiver.zoneOurs]

theorem messageArrival_none {b : List Byte} (h : 1 < beField b 7 1 ∨ beField b 6 1 = 0) : messageArrival b = none := by
  unfold messageArrival
  rw [beField_byte_eq_zero_iff] at h
  dsimp only
  split
  · rfl
  · next groups => exact dif_neg (by have := h.resolve_right groups; omega)

theorem messageArrival_some {b : List Byte} {feed : Fin 2} (h : beField b 7 1 = feed) (groups : beField b 6 1 ≠ 0) :
    messageArrival b =
      some ⟨beField b 4 2, max 1 (min 3 (beField b 3 1)), .line, b.getD 6 0, feed, min (beField b 8 2) 7200⟩ := by
  have groups' : ¬ b.getD 6 0 = 0 := fun e => groups ((beField_byte_eq_zero_iff b 6).2 e)
  have lt : beField b 7 1 < 2 := by omega
  have same : (⟨beField b 7 1, lt⟩ : Fin 2) = feed := Fin.ext h
  simp only [messageArrival, groups', if_false, lt, dif_pos, same, clamp]

section
variable {s : State} {w : Wave} {p : Nat}

/-- R144: the byte of this wave is in the buffer. -/
def State.placed (s : State) (w : Wave) (p : Nat) : State :=
  (s.atTime (sampledAt w p 9)).mapReceiver fun r => r.placeByte w p

theorem State.takeBodyByte_low (stop : (sampleBit w p 9).value = false) :
    s.takeBodyByte w p = (s.atTime (sampledAt w p 9)).abandonMessage .framing :=
  if_neg (by simp [stop])

theorem State.takeBodyByte_high (stop : (sampleBit w p 9).value = true) : s.takeBodyByte w p = (s.placed w p).afterByte :=
  if_pos stop

/-- R147, R148: a complete message whose check is wrong. -/
theorem State.judgeMessage_check (h : (crc16 ((s.receiver.buffer.drop 1).take 9)).toNat ≠ beField s.receiver.buffer 10 2) :
    s.judgeMessage = s.abandonLogged .check (beField s.receiver.buffer 10 2) (crc16 ((s.receiver.buffer.drop 1).take 9)).toNat :=
  if_pos h

theorem State.judgeMessage_field (h : (crc16 ((s.receiver.buffer.drop 1).take 9)).toNat = beField s.receiver.buffer 10 2)
    (bad : 1 < beField s.receiver.buffer 7 1 ∨ beField s.receiver.buffer 6 1 = 0) :
    s.judgeMessage = s.abandonLogged .field (beField s.receiver.buffer 7 1) (beField s.receiver.buffer 6 1) := by
  refine (if_neg (not_not.2 h)).trans ?_
  rw [messageArrival_none bad]

theorem State.judgeMessage_valid (h : (crc16 ((s.receiver.buffer.drop 1).take 9)).toNat = beField s.receiver.buffer 10 2)
    {feed : Fin 2} (feed' : beField s.receiver.buffer 7 1 = feed) (groups : beField s.receiver.buffer 6 1 ≠ 0) :
    s.judgeMessage = s.deliver ⟨beField s.receiver.buffer 4 2, max 1 (min 3 (beField s.receiver.buffer 3 1)), .line,
      s.receiver.buffer.getD 6 0, feed, min (beField s.receiver.buffer 8 2) 7200⟩ := by
  refine (if_neg (not_not.2 h)).trans ?_
  rw [messageArrival_some feed' groups]

end

end Sys2Proof.Machine

namespace Sys2Proof.Certificates.Slice0
open Sys2Proof.Machine

/-- Settles O52. -/
theorem bodyBytesMakeAMessage : Obligations.BodyBytesMakeAMessage := by
  intro s w idle p running state period from_ after within_
  have byte_ := exec_bodyByte running state period w
  rw [State.onStartEdge_met from_ after within_] at byte_
  refine ⟨fun start => ?_, fun start stop => ?_, fun start stop => ?_⟩
  · rw [byte_, if_pos start, sampledAt_zero]
    rfl
  · rw [byte_, if_neg (by simp [start]), State.takeBodyByte_low stop]
    rfl
  rw [if_neg (by simp [start]), State.takeBodyByte_high stop] at byte_
  have noted := ReceiverCounts.noted_eq s.receiver.counts (noiseMark w p)
  obtain ⟨noise, noise_⟩ : ∃ n, n = if noiseMark w p = true then min (s.receiver.counts.noise + 1) 65535 else s.receiver.counts.noise :=
    ⟨_, rfl⟩
  rw [← noise_] at noted
  refine ⟨dataByte w p, noise, fun k lt => dataByte_getLsbD w p lt, fun noisy => ?_, fun quiet => ?_, ?_⟩
  · rw [noise_, if_pos ((noiseMark_iff w p).2 noisy)]
  · rw [noise_, if_neg]
    rw [noiseMark_iff]
    rintro ⟨k, lt, noisy⟩
    rw [quiet k lt] at noisy
    cases noisy
  intro buffer counts placed ended alert
  have isPlaced : s.placed w p = placed := by
    simp only [State.placed, State.mapReceiver, Receiver.placeByte, State.atTime_receiver, noted]
    rfl
  rw [isPlaced] at byte_
  refine ⟨fun not3 not12 => ?_, fun is3 ours => ?_, fun is3 other zone => ?_, fun is12 check => ?_,
    fun is12 check => ⟨fun bad => ?_, fun feed isFeed groups => ?_⟩⟩
  · exact byte_.trans (congrArg Host.Outcome.next ((if_neg not3).trans (if_neg not12)))
  · exact byte_.trans (congrArg Host.Outcome.next ((if_pos is3).trans (if_pos ((Receiver.zoneOurs_iff _).2 ours))))
  · refine byte_.trans (congrArg Host.Outcome.next ((if_pos is3).trans (if_neg ?_)))
    rw [Receiver.zoneOurs_iff]
    rintro (h | h)
    · exact other h
    · exact zone h
  all_goals
    have not3 : ¬ placed.receiver.buffer.length = 3 := by
      change ¬ buffer.length = 3
      omega
    refine byte_.trans (congrArg Host.Outcome.next ((if_neg not3).trans ((if_pos is12).trans ?_)))
  · exact (State.judgeMessage_check (s := placed) check)
  · exact (State.judgeMessage_field (s := placed) check bad)
  · exact (State.judgeMessage_valid (s := placed) check isFeed groups)

end Sys2Proof.Certificates.Slice0

namespace Sys2Proof.Machine

/-! ## Batches and marks (R178, R179) -/

theorem zero_xor {w : Nat} (x : BitVec w) : 0 ^^^ x = x :=
  BitVec.zero_xor

theorem xor_cancel (a b x : Byte) : a ^^^ b ^^^ (a ^^^ (b ^^^ x)) ^^^ x = 0 := by
  rw [← BitVec.xor_assoc a b x, ← BitVec.xor_assoc (a ^^^ b), BitVec.xor_self, BitVec.zero_xor, BitVec.xor_self]
  rfl

theorem foldl_xor (l : List Byte) (a : Byte) : l.foldl (fun x y => x ^^^ y) a = a ^^^ l.foldl (fun x y => x ^^^ y) 0 := by
  induction l generalizing a with
  | nil => simp
  | cons x l ih =>
    rw [List.foldl_cons, List.foldl_cons, ih, ih (0 ^^^ x), zero_xor, BitVec.xor_assoc]

/-- Section 10.3: the bytes the log writer writes for a batch's mark have the mark's fields in their places, and XOR to 0. -/
theorem ClosedBatch.markBytes_isMark (b : ClosedBatch) : isMark b.markBytes b.first b.number b.firstSeq b.count b.check := by
  refine ⟨rfl, ?_, rfl, rfl⟩
  have check : xorBytes (0x5B#8 :: 0x4C#8 :: b.markRest) =
      0x5B#8 ^^^ (0x4C#8 ^^^ b.markRest.foldl (fun x y => x ^^^ y) 0) := by
    rw [xorBytes, List.foldl_cons, List.foldl_cons, foldl_xor, zero_xor, BitVec.xor_assoc]
  rw [ClosedBatch.markBytes, check, List.cons_append, List.cons_append, List.cons_append, List.nil_append, List.foldl_cons,
    List.foldl_cons, List.foldl_cons, foldl_xor, zero_xor]
  exact xor_cancel ..

/-- R178: the batch as it closes with its mark at `mark`. -/
def OpenBatch.closedAt (b : OpenBatch) (mark : Nat) : ClosedBatch :=
  ⟨b.first, b.number, b.firstSeq, b.count, b.check, mark, b.inFlight, decide (b.inFlight = 0)⟩

/-- The closing of the open batch `b` in full. -/
theorem LogWriter.close_of_batch {l : LogWriter} {b : OpenBatch} (batch : l.batch = some b) (bus : Bus) : l.close bus =
    ({ l with floor := l.floor - 16, batch := none, closing := l.closing ++ [b.closedAt (l.floor - 16)] },
      if b.inFlight = 0 then
        bus.write (l.base + (l.floor - 16)) (b.closedAt (l.floor - 16)).markBytes (.logMark l.run b.first)
      else bus) := by
  have requested : (b.inFlight == 0) = decide (b.inFlight = 0) := by cases b.inFlight <;> rfl
  simp only [LogWriter.close, batch, requested]
  rfl

theorem LogWriter.close_of_none {l : LogWriter} (batch : l.batch = none) (bus : Bus) : l.close bus = (l, bus) := by
  simp only [LogWriter.close, batch]

theorem State.closeBatch_of_none {s : State} (batch : s.log.batch = none) : s.closeBatch = s := by
  simp only [State.closeBatch, LogWriter.close_of_none batch]

/-- The state once the open batch `b` has closed, `mark` being the bytes of its mark. -/
def State.closed (s : State) (b : OpenBatch) (mark : List Byte) : State :=
  { s with
    log := { s.log with
      floor := s.log.floor - 16
      batch := none
      closing := s.log.closing ++ [b.closedAt (s.log.floor - 16)] }
    bus := if b.inFlight = 0 then s.bus.write (s.log.base + (s.log.floor - 16)) mark (.logMark s.log.run b.first) else s.bus }

theorem State.closeBatch_of_batch {s : State} {b : OpenBatch} (batch : s.log.batch = some b) :
    s.closeBatch = s.closed b (b.closedAt (s.log.floor - 16)).markBytes := by
  simp only [State.closeBatch, LogWriter.close_of_batch batch, State.closed]

/-! ## Records (R172 to R180) -/

theorem State.record_transparent {s : State} (h : s.boot ≠ .running) (r : Record) : s.record r = s := by
  simp only [State.record, h, if_false]

theorem State.record_running {s : State} (h : s.boot = .running) (r : Record) : s.record r =
    { s with log := (s.log.take s.bus s.house r).1, bus := (s.log.take s.bus s.house r).2 } := by
  simp only [State.record, h, if_true]

theorem LogWriter.fits_iff (l : LogWriter) : l.fits = true ↔ l.fo + 48 ≤ l.floor := by
  simp [LogWriter.fits]

theorem LogWriter.openFor_of {l : LogWriter} {house : Nat} {b : OpenBatch} (h : l.batch = some b ∨
    (l.batch = none ∧ b = ⟨l.fo / 32, l.batchNumber, l.sequence, house, 0, 0, 0⟩)) : l.openFor house = b := by
  rcases h with h | ⟨h, rfl⟩ <;> simp only [LogWriter.openFor, h]

/-- The open batch `b` as this record joins it. -/
def OpenBatch.join (b : OpenBatch) (bytes : List Byte) : OpenBatch :=
  { b with count := b.count + 1, check := b.check ^^^ xorWords bytes, inFlight := b.inFlight + 1 }

theorem OpenBatch.join_inFlight (b : OpenBatch) (bytes : List Byte) : ¬ (b.join bytes).inFlight = 0 :=
  Nat.succ_ne_zero _

theorem OpenBatch.join_closedAt {b : OpenBatch} (last : b.count = 15) (bytes : List Byte) (mark : Nat) :
    (b.join bytes).closedAt mark =
      ⟨b.first, b.number, b.firstSeq, 16, (b.join bytes).check, mark, (b.join bytes).inFlight, false⟩ := by
  have count : b.count + 1 = 16 := by rw [last]
  simp only [OpenBatch.closedAt, OpenBatch.join_inFlight, decide_false]
  simp only [OpenBatch.join, count]

/-- R176, R177: the log as the record of these bytes joins batch `b`. -/
def LogWriter.written (l : LogWriter) (b : OpenBatch) (bytes : List Byte) : LogWriter :=
  { l with
    fo := l.fo + 32
    sequence := (l.sequence + 1) % 2 ^ 32
    batchNumber := if l.batch = none then (l.batchNumber + 1) % 65536 else l.batchNumber
    batch := some (b.join bytes) }

theorem LogWriter.append_of {l : LogWriter} {house : Nat} {b : OpenBatch} (opened : l.openFor house = b) (bus : Bus) (r : Record)
    {bytes : List Byte} (spelt : bytes = r.bytes house l.sequence b.number b.count) : l.append bus house r =
      if b.count = 15 then
        (l.written b bytes).close (bus.write (l.base + l.fo) bytes (.logRecord l.run b.first))
      else (l.written b bytes, bus.write (l.base + l.fo) bytes (.logRecord l.run b.first)) := by
  subst opened spelt
  have number : (if l.batch.isSome then l.batchNumber else (l.batchNumber + 1) % 65536) =
      if l.batch = none then (l.batchNumber + 1) % 65536 else l.batchNumber := by
    cases l.batch <;> rfl
  have full : (l.openFor house).count + 1 = 16 ↔ (l.openFor house).count = 15 := by omega
  simp only [LogWriter.append, number, full]
  rfl

/-- R177: a record that fits, and finds no batch open, opens one. -/
theorem State.record_opens {s : State} (running : s.boot = .running) (isOpen : s.log.state = .open)
    (room : s.log.fo + 48 ≤ s.log.floor) (batch : s.log.batch = none) (r : Record) {b : OpenBatch}
    (opened : b = ⟨s.log.fo / 32, s.log.batchNumber, s.log.sequence, s.house, 0, 0, 0⟩) {bytes : List Byte}
    (spelt : bytes = r.bytes s.house s.log.sequence b.number b.count) : s.record r =
      { s with
        log := s.log.written b bytes
        bus := s.bus.write (s.log.base + s.log.fo) bytes (.logRecord s.log.run b.first) } := by
  have more : b.count ≠ 15 := by
    rw [opened]
    exact (by decide : (0 : Nat) ≠ 15)
  rw [State.record_running running, LogWriter.take_fits _ _ _ _ isOpen ((LogWriter.fits_iff _).2 room),
    LogWriter.append_of (LogWriter.openFor_of (.inr ⟨batch, opened⟩)) _ _ spelt, if_neg more]

/-! ## LOG_CLOSE directives that wait (R182) -/

theorem CloseWait.strike_without (failed : Bool) (b : Nat) (gone : List Nat) (w : CloseWait) :
    (w.strike failed b).without failed gone = w.without failed (b :: gone) := by
  obtain ⟨ticket, batches, wasFailed⟩ := w
  by_cases mem : b ∈ batches
  · have any : (failed || (failed && (batches.filter (· != b)).any fun k => k ∈ gone)) =
        (failed && batches.any fun k => k ∈ b :: gone) := by
      have : (batches.any fun k => decide (k ∈ b :: gone)) = true := by
        simp only [List.any_eq_true, decide_eq_true_eq]
        exact ⟨b, mem, List.mem_cons_self⟩
      rw [this]
      cases failed <;> rfl
    simp only [CloseWait.strike, CloseWait.without, mem, if_true, Bool.or_assoc, any, List.filter_filter]
    congr 1
    refine List.filter_congr fun k _ => ?_
    simp only [List.mem_cons, not_or, Bool.decide_and, tag_bne, ne_eq, Bool.and_comm]
  · have same (k : Nat) (h : k ∈ batches) : (k ∈ b :: gone ↔ k ∈ gone) := by
      have : k ≠ b := fun e => mem (e ▸ h)
      simp [this]
    simp only [CloseWait.strike, CloseWait.without, mem, if_false, CloseWait.mk.injEq, true_and]
    refine ⟨List.filter_congr fun k h => ?_, ?_⟩
    · rw [decide_eq_decide, same k h]
    · congr 2
      rw [Bool.eq_iff_iff]
      simp only [List.any_eq_true, decide_eq_true_eq]
      exact exists_congr fun k => and_congr_right fun h => (same k h).symm

theorem CloseWait.foldl_strike (failed : Bool) (gone : List Nat) (w : CloseWait) :
    gone.foldl (fun w b => w.strike failed b) w = w.without failed gone := by
  induction gone generalizing w with
  | nil =>
    have none_ : (w.batches.any fun _ => false) = false := by simp
    simp [CloseWait.without, none_]
  | cons b gone ih => rw [List.foldl_cons, ih, CloseWait.strike_without]

theorem State.settleBatches_eq (s : State) (failed : Bool) (gone : List Nat) :
    s.settleBatches failed gone = s.closesAnswered failed gone := by
  have done (w : CloseWait) : w.batches.isEmpty = decide (w.batches = []) := by cases w.batches <;> rfl
  simp only [State.settleBatches, State.answerCloses, State.closesAnswered, CloseWait.foldl_strike, done, ne_eq, decide_not]
  refine List.foldl_ext _ _ _ fun s w _ => ?_
  split <;> rfl

/-! ## Responses, one after another -/

/-- LOG_CLOSE directives answered one after another. -/
def State.respondAll (s : State) (l : List CloseWait) (r : CloseWait → DirectiveResult) (d : CloseWait → Nat) : State :=
  l.foldl (fun s w => s.respond w.ticket.seq 13 (r w) (d w) w.ticket.slot) s

/-- The count of records withheld starts again (R183). -/
def State.forgetWithheld (s : State) : State :=
  { s with log := { s.log with withheld := 0 } }

/-- Responses touch the directive unit and the bus alone, and look at no figure of the log. -/
theorem State.respondAll_frame (l : List CloseWait) (r : CloseWait → DirectiveResult) (d : CloseWait → Nat) (s : State) :
    ∃ dir bus, ∀ log, ({ s with log := log } : State).respondAll l r d = { s with log := log, dir := dir, bus := bus } := by
  induction l generalizing s with
  | nil => exact ⟨s.dir, s.bus, fun _ => rfl⟩
  | cons w l ih =>
    obtain ⟨dir, bus, h⟩ := ih (s.respond w.ticket.seq 13 (r w) (d w) w.ticket.slot)
    exact ⟨dir, bus, h⟩

end Sys2Proof.Machine

namespace Sys2Proof.Certificates.Slice0
open Sys2Proof.Machine

/-- Settles O42. -/
theorem recordsAreWrittenOrWithheld : Obligations.RecordsAreWrittenOrWithheld := by
  intro s r l withheld
  refine ⟨fun h => State.record_transparent h r, fun running notOpen => ?_, fun running isOpen tight batch => ?_,
    fun b running isOpen tight batch => ?_, fun b running isOpen room opened => ?_⟩
  · rw [State.record_running running, LogWriter.take_not_open _ _ _ _ notOpen]
    rfl
  · have full : s.log.fits = false := by
      rw [← Bool.not_eq_true, LogWriter.fits_iff]
      exact Nat.not_le.2 tight
    rw [State.record_running running, LogWriter.take_full _ _ _ _ isOpen full,
      LogWriter.close_of_none (l := s.log.withhold) batch]
    rfl
  · have full : s.log.fits = false := by
      rw [← Bool.not_eq_true, LogWriter.fits_iff]
      exact Nat.not_le.2 tight
    refine ⟨_, (b.closedAt (s.log.floor - 16)).markBytes_isMark, ?_⟩
    rw [State.record_running running, LogWriter.take_full _ _ _ _ isOpen full,
      LogWriter.close_of_batch (l := s.log.withhold) batch]
    rfl
  · refine ⟨_, r.bytes_isLogRecord s.house s.log.sequence b.number b.count, ?_⟩
    have append := LogWriter.append_of (LogWriter.openFor_of opened) s.bus r rfl
    rw [State.record_running running, LogWriter.take_fits _ _ _ _ isOpen ((LogWriter.fits_iff _).2 room), append]
    refine ⟨fun more => ?_, fun last => ?_⟩
    · rw [if_neg more]
      rfl
    · rw [if_pos last, LogWriter.close_of_batch rfl, if_neg (OpenBatch.join_inFlight _ _), OpenBatch.join_closedAt last]
      rfl

/-- Settles O43. -/
theorem batchTimerClosesTheBatch : Obligations.BatchTimerClosesTheBatch := by
  intro s
  refine ⟨fun batch => congrArg Host.Outcome.next ?_, fun b batch => ⟨_, (b.closedAt (s.log.floor - 16)).markBytes_isMark, ?_⟩⟩
  · rw [batch]
  · refine congrArg Host.Outcome.next ?_
    rw [batch]
    exact State.closeBatch_of_batch (s := s.atTime (b.opened + 27000000)) batch

theorem exec_logClose_inHand {s : State} {seq slot : Nat} (h : s.inHand (.logClose seq slot)) :
    exec (.logClose seq slot) s = .next (s.taken.logClose ⟨seq, slot⟩) :=
  congrArg Host.Outcome.next (State.takeDirective_of _ h)

/-- Settles O45. -/
theorem logCloseWaitsForItsMarks : Obligations.LogCloseWaitsForItsMarks := by
  intro s seq slot inHand
  refine ⟨fun batch closing => ?_, fun batch closing => ?_, fun b batch => ⟨_, (b.closedAt (s.log.floor - 16)).markBytes_isMark, ?_⟩⟩
  · rw [exec_logClose_inHand inHand, State.logClose, State.closeBatch_of_none (s := s.taken) batch]
    exact congrArg Host.Outcome.next (if_pos (List.isEmpty_iff.2 closing))
  · rw [exec_logClose_inHand inHand, State.logClose, State.closeBatch_of_none (s := s.taken) batch]
    exact congrArg Host.Outcome.next (if_neg fun empty => closing (List.isEmpty_iff.1 empty))
  · rw [exec_logClose_inHand inHand, State.logClose, State.closeBatch_of_batch (s := s.taken) batch]
    refine congrArg Host.Outcome.next ((if_neg ?_).trans ?_)
    · simp [State.closed]
    · simp only [State.closed, List.map_append, List.map_cons, List.map_nil]
      rfl

theorem exec_logRestart_inHand {s : State} {seq slot : Nat} (h : s.inHand (.logRestart seq slot)) :
    exec (.logRestart seq slot) s = .next (s.taken.logRestart ⟨seq, slot⟩) :=
  congrArg Host.Outcome.next (State.takeDirective_of _ h)

/-- Settles O46. -/
theorem logRestartBeginsANewRun : Obligations.LogRestartBeginsANewRun := by
  intro s seq slot inHand running size cancelled
  refine ⟨_, s.log.state.code, ?_, Record.bytes_isLogRecord _ s.house 0 0 0, ?_⟩
  · cases s.log.state <;> simp [LogState.code]
  obtain ⟨dir, bus, frame⟩ := s.taken.respondAll_frame s.log.waits (fun _ => .cancelled) fun _ => 0
  have old : cancelled = { s.taken with dir := dir, bus := bus } := frame s.taken.log
  obtain ⟨u, u_⟩ : ∃ u : State, u = { s.taken with log := s.log.restart, dir := dir, bus := bus } := ⟨_, rfl⟩
  have waited : ({ s.taken with log := s.log.restart } : State).respondAll s.log.waits (fun _ => .cancelled) (fun _ => 0) = u :=
    (frame _).trans u_.symm
  have log : u.log = s.log.restart := by rw [u_]
  have room : u.log.fo + 48 ≤ u.log.floor := by
    rw [log]
    change 0 + 48 ≤ s.log.size
    omega
  have first := State.record_opens (s := u) (by rw [u_]; exact running) (by rw [log]; rfl) room (by rw [log]; rfl)
    ⟨.logRestarted, 255, s.log.state.code, 0, s.log.withheld, s.log.sequence⟩ rfl rfl
  rw [exec_logRestart_inHand inHand, State.logRestart]
  refine congrArg Host.Outcome.next (congrArg (State.respond · seq 14 .done 0 slot) ?_)
  change ((State.respondAll { s.taken with log := s.log.restart } s.log.waits (fun _ => .cancelled) fun _ => 0).record
    ⟨.logRestarted, 255, s.log.state.code, 0, s.log.withheld, s.log.sequence⟩).forgetWithheld = _
  rw [waited, first, old, u_]
  simp only [LogWriter.restart, LogWriter.written, OpenBatch.join, zero_xor, if_true, Nat.reduceAdd, Nat.reduceMod, Nat.reduceDiv,
    Nat.reducePow]
  rfl

end Sys2Proof.Certificates.Slice0

namespace Sys2Proof.Machine

/-! ## Answers to the log's own writes (R179, R181) -/

section
variable {s : State} {x : Txn} {run first : Nat}

theorem exec_logRecordWriteComplete (routed : s.bus.issuedTxn x.id = some x) (owner : x.owner = .logRecord run first) (a : Answer) :
    exec (.logRecordWriteComplete x.id a) s = .next ((s.left x).logRecordAnswered run first a) := by
  refine congrArg Host.Outcome.next ((State.onResponse_self _ routed owner (by simp)).trans ?_)
  simp only [owner, State.completeTxn_eq_left]

theorem exec_markWriteComplete (routed : s.bus.issuedTxn x.id = some x) (owner : x.owner = .logMark run first) (a : Answer) :
    exec (.markWriteComplete x.id a) s = .next ((s.left x).logMarkAnswered run first a) := by
  refine congrArg Host.Outcome.next ((State.onResponse_self _ routed owner (by simp)).trans ?_)
  simp only [owner, State.completeTxn_eq_left]

/-- What becomes of a closed batch when a record write of batch `first` has completed OK. -/
def ClosedBatch.counted (first : Nat) (b : ClosedBatch) : ClosedBatch :=
  if b.first = first then { b with inFlight := b.inFlight - 1, requested := b.requested || b.inFlight == 1 } else b

/-- What becomes of the open batch. -/
def OpenBatch.counted (first : Nat) (b : OpenBatch) : OpenBatch :=
  if b.first = first then { b with inFlight := b.inFlight - 1 } else b

theorem LogWriter.recordDone_eq (l : LogWriter) (first : Nat) : l.recordDone first =
    { l with batch := l.batch.map (OpenBatch.counted first), closing := l.closing.map (ClosedBatch.counted first) } := rfl

theorem ClosedBatch.map_counted_other {l : List ClosedBatch} (h : ∀ y ∈ l, y.first ≠ first) :
    l.map (ClosedBatch.counted first) = l :=
  (List.map_congr_left fun y mem => if_neg (h y mem)).trans (List.map_id _)

theorem OpenBatch.map_counted_other {o : Option OpenBatch} (h : ∀ b, o = some b → b.first ≠ first) :
    o.map (OpenBatch.counted first) = o := by
  cases o with
  | none => rfl
  | some b => exact congrArg some (if_neg (h b rfl))

theorem ClosedBatch.map_counted_split {front back : List ClosedBatch} {b : ClosedBatch}
    (others : ∀ y ∈ front ++ back, y.first ≠ first) (is : b.first = first) :
    (front ++ b :: back).map (ClosedBatch.counted first) =
      front ++ { b with inFlight := b.inFlight - 1, requested := b.requested || b.inFlight == 1 } :: back := by
  rw [List.map_append, List.map_cons,
    ClosedBatch.map_counted_other fun y mem => others y (List.mem_append_left _ mem),
    ClosedBatch.map_counted_other fun y mem => others y (List.mem_append_right _ mem)]
  exact congrArg (front ++ · :: back) (if_pos is)

/-- The closed batch of this number whose mark is not yet asked for. -/
theorem ClosedBatch.find?_split {front back : List ClosedBatch} {b : ClosedBatch}
    (others : ∀ y ∈ front ++ back, y.first ≠ first) (is : b.first = first) (waiting : b.requested = false) :
    (front ++ b :: back).find? (fun b => b.first == first && !b.requested) = some b := by
  have none_ : front.find? (fun b => b.first == first && !b.requested) = none := by
    rw [List.find?_eq_none]
    intro y mem
    simp [others y (List.mem_append_left _ mem)]
  rw [List.find?_append, none_, Option.none_or, List.find?_cons_of_pos]
  simp [is, waiting]

theorem ClosedBatch.find?_other {l : List ClosedBatch} (h : ∀ y ∈ l, y.first ≠ first) :
    l.find? (fun b => b.first == first && !b.requested) = none := by
  rw [List.find?_eq_none]
  intro y mem
  simp [h y mem]

theorem State.logRecordOk_found {b : ClosedBatch}
    (found : s.log.closing.find? (fun b => b.first == first && !b.requested) = some b) : s.logRecordOk first =
      { s with
        log := s.log.recordDone first
        bus := if b.inFlight - 1 = 0 then s.bus.write (s.log.base + b.mark) b.markBytes (.logMark s.log.run b.first) else s.bus } := by
  simp only [State.logRecordOk, found]
  rfl

theorem State.logRecordOk_other (others : ∀ y ∈ s.log.closing, y.first ≠ first) : s.logRecordOk first =
    { s with log := { s.log with batch := s.log.batch.map (OpenBatch.counted first) } } := by
  simp only [State.logRecordOk, ClosedBatch.find?_other others, LogWriter.recordDone_eq, ClosedBatch.map_counted_other others]

theorem State.stopLog_eq (s : State) (first : Nat) : s.stopLog first = State.closesAnswered { s with
      log := { s.log with
        batch := none
        closing := s.log.closing.filter fun b => b.requested = true ∧ b.first ≠ first
        state := .stopped } } true ((s.log.closing.filter fun b => b.requested = false ∨ b.first = first).map ClosedBatch.first) := by
  have gone (b : ClosedBatch) : (!b.requested || b.first == first) = decide (b.requested = false ∨ b.first = first) := by
    cases b.requested <;> simp [beq_eq_decide]
  have kept (b : ClosedBatch) : (!(!b.requested || b.first == first)) = decide (b.requested = true ∧ b.first ≠ first) := by
    cases b.requested <;> simp [beq_eq_decide]
  rw [State.stopLog, funext kept, funext gone, State.settleBatches_eq]

/-- The log without the closed batches of this number. -/
def State.unlisted (s : State) (first : Nat) : State :=
  { s with log := { s.log with closing := s.log.closing.filter fun b => b.first ≠ first } }

/-- Whether the closing list holds a batch of this number. -/
theorem State.closing_any_iff (s : State) (first : Nat) :
    (s.log.closing.any fun b => b.first == first) = true ↔ ∃ b ∈ s.log.closing, b.first = first := by
  simp

theorem State.logMarkAnswered_ok (current : run = s.log.run) (listed : ∃ b ∈ s.log.closing, b.first = first) (data : List Byte) :
    s.logMarkAnswered run first (.ok data) = (s.unlisted first).closesAnswered false [first] := by
  have any := (s.closing_any_iff first).2 listed
  rw [← State.settleBatches_eq]
  simp only [State.logMarkAnswered, current, any, tag_bne, ne_eq, not_true, if_false, Bool.not_true, Bool.false_eq_true,
    State.unlisted]

theorem State.logMarkAnswered_error (current : run = s.log.run) (listed : ∃ b ∈ s.log.closing, b.first = first) :
    s.logMarkAnswered run first .error =
      if s.log.state = .stopped then (s.unlisted first).closesAnswered true [first] else s.stopLog first := by
  have any := (s.closing_any_iff first).2 listed
  rw [← State.settleBatches_eq]
  simp only [State.logMarkAnswered, current, any, tag_bne, ne_eq, not_true, if_false, Bool.not_true, Bool.false_eq_true,
    State.unlisted]

theorem State.logMarkAnswered_other (h : run ≠ s.log.run ∨ ∀ b ∈ s.log.closing, b.first ≠ first) (a : Answer) :
    s.logMarkAnswered run first a = s := by
  unfold State.logMarkAnswered
  split
  · rfl
  · next current =>
    have none_ : (s.log.closing.any fun b => b.first == first) = false := by
      simpa using h.resolve_left current
    exact if_pos (by rw [none_]; rfl)

end

end Sys2Proof.Machine

namespace Sys2Proof.Certificates.Slice0
open Sys2Proof.Machine

/-- Settles O44. -/
theorem logWritesAreAnswered : Obligations.LogWritesAreAnswered := by
  intro s x run first a routed left gone stopped
  have ok (data : List Byte) (current : run = s.log.run) :
      (s.left x).logRecordAnswered run first (.ok data) = (s.left x).logRecordOk first := if_neg (not_not.2 current)
  have error (current : run = s.log.run) : (s.left x).logRecordAnswered run first .error =
      if s.log.state = .stopped then s.left x else State.stopLog { s.left x with log := s.log.withhold } first :=
    if_neg (not_not.2 current)
  refine ⟨fun owner => ?_, fun owner => ?_⟩
  · rw [exec_logRecordWriteComplete routed owner]
    refine ⟨fun old => congrArg Host.Outcome.next (if_pos old), fun current => ⟨?_, ?_, ?_, ?_, ?_, ?_⟩⟩
    · rintro data front b back rfl split others is waiting last batch
      have found := ClosedBatch.find?_split others is waiting
      rw [← split] at found
      rw [ok data current, State.logRecordOk_found (s := s.left x) found, LogWriter.recordDone_eq,
        OpenBatch.map_counted_other (o := (s.left x).log.batch) batch]
      change Host.Outcome.next ({ s.left x with log := { s.log with closing := s.log.closing.map _ }, bus := _ } : State) = _
      rw [split, ClosedBatch.map_counted_split others is, last, waiting, ← is, current]
      rfl
    · rintro data front b back rfl split others is waiting more batch
      have found := ClosedBatch.find?_split others is waiting
      rw [← split] at found
      have rest : ¬ b.inFlight - 1 = 0 := by omega
      have one : (b.inFlight == 1) = false := beq_false_of_ne (by omega)
      have same : (b.requested || b.inFlight == 1) = b.requested := by rw [one, Bool.or_false]
      rw [ok data current, State.logRecordOk_found (s := s.left x) found, LogWriter.recordDone_eq,
        OpenBatch.map_counted_other (o := (s.left x).log.batch) batch, if_neg rest]
      change Host.Outcome.next ({ s.left x with log := { s.log with closing := s.log.closing.map _ } } : State) = _
      rw [split, ClosedBatch.map_counted_split others is, same]
      rfl
    · rintro data rfl others batch
      rw [ok data current, State.logRecordOk_other (s := s.left x) others,
        OpenBatch.map_counted_other (o := (s.left x).log.batch) batch]
      rfl
    · rintro data o rfl batch is others
      rw [ok data current, State.logRecordOk_other (s := s.left x) others]
      change Host.Outcome.next ({ s.left x with log := { s.log with batch := s.log.batch.map _ } } : State) = _
      rw [batch, Option.map_some, OpenBatch.counted, if_pos is]
      rfl
    · rintro rfl stopped
      rw [error current, if_pos stopped]
      rfl
    · rintro rfl running
      rw [error current, if_neg running, State.stopLog_eq]
      rfl
  · rw [exec_markWriteComplete routed owner]
    refine ⟨fun other => ?_, fun current listed => ⟨?_, ?_, ?_⟩⟩
    · rw [State.logMarkAnswered_other (s := s.left x) other]
      rfl
    · rintro data rfl
      rw [State.logMarkAnswered_ok (s := s.left x) current listed]
      rfl
    · rintro rfl stopped
      rw [State.logMarkAnswered_error (s := s.left x) current listed]
      exact congrArg Host.Outcome.next (if_pos stopped)
    · rintro rfl running
      rw [State.logMarkAnswered_error (s := s.left x) current listed, State.stopLog_eq]
      exact congrArg Host.Outcome.next (if_neg running)

end Sys2Proof.Certificates.Slice0

namespace Sys2Proof.Machine

/-! ## The bytes of a snapshot (R190, R191) -/

theorem wordBytes_take (n : Nat) (l : List Nat) : wordBytes (l.take n) = (wordBytes l).take (4 * n) := by
  induction n generalizing l with
  | zero => rfl
  | succ n ih =>
    cases l with
    | nil => rfl
    | cons a l =>
      have len : (snapWord a).length = 4 := rfl
      have rest : 4 * (n + 1) - 4 = 4 * n := by omega
      have whole : (snapWord a).take (4 * (n + 1)) = snapWord a := List.take_of_length_le (by omega)
      rw [List.take_succ_cons, wordBytes_cons, wordBytes_cons, ih, List.take_append, len, rest, whole]

theorem wordBytes_zeros (n : Nat) : wordBytes (List.replicate n 0) = List.replicate (4 * n) 0 := by
  induction n with
  | zero => rfl
  | succ n ih =>
    have zero : snapWord 0 = List.replicate 4 0 := by decide
    rw [List.replicate_succ, wordBytes_cons, ih, zero, ← List.replicate_add, Nat.mul_succ, Nat.add_comm]

/-- The snapshot is the words of R191 over its extent. -/
theorem State.snapshot_eq (s : State) (x : Scope) : s.snapshot x = snapshotBytes (s.snapshotWords x) (x.extent / 4) := by
  have extent : 4 * (x.extent / 4) = x.extent := by cases x <;> simp only [Scope.extent, Nat.reduceDiv, Nat.reduceMul]
  change _ = wordBytes ((s.snapshotWords x ++ List.replicate (x.extent / 4) 0).take (x.extent / 4))
  rw [wordBytes_take, wordBytes_append, wordBytes_zeros, extent, State.snapshotWords_bytes]
  rfl

theorem State.snapshot_length (s : State) (x : Scope) : (s.snapshot x).length = x.extent := by
  rw [State.snapshot, List.length_take, List.length_append, List.length_replicate]
  omega

/-- R190: the writes of a snapshot, in address order. -/
theorem Bus.writeSnapshot_eq (job dest : Nat) (bytes : List Byte) (n i : Nat) (b : Bus) (long : 128 * (i + n) ≤ bytes.length) :
    Bus.writeSnapshot job dest bytes n i b = { b with
      txns := b.txns ++ (List.range n).map fun k =>
        ⟨b.next + k, b.next + k, 2, true, dest + 128 * (i + k), 128, (bytes.drop (128 * (i + k))).take 128,
          List.replicate 128 true, .snapshot job, false⟩
      next := b.next + n } := by
  induction n generalizing i b with
  | zero => simp [Bus.writeSnapshot]
  | succ n ih =>
    have piece : ((bytes.drop (128 * i)).take 128).length = 128 := by
      rw [List.length_take, List.length_drop]
      omega
    have next (k : Nat) : b.next + 1 + k = b.next + (k + 1) := by omega
    have place (k : Nat) : i + 1 + k = i + (k + 1) := by omega
    rw [Bus.writeSnapshot, ih (i + 1) _ (by omega)]
    simp only [slice, Bus.write, Bus.request, piece, List.append_assoc, List.singleton_append, List.range_succ_eq_map, List.map_cons,
      List.map_map, Function.comp_def, next, place, Nat.add_zero, Nat.succ_eq_add_one]

/-! ## STATUS (R190) -/

theorem Scope.of_none {scope number : Nat} (h : 2 < scope ∨ (scope = 1 ∧ 31 < number) ∨ (scope = 2 ∧ 63 < number)) :
    Scope.of scope number = none := by
  rcases h with h | ⟨rfl, h⟩ | ⟨rfl, h⟩
  · unfold Scope.of
    split
    case h_4 => rfl
    all_goals omega
  · exact dif_neg (by omega)
  · exact dif_neg (by omega)

theorem Scope.of_some {scope number extent : Nat} {what : Scope} (h : (what = .device ∧ scope = 0 ∧ extent = 1024) ∨
    (∃ c : Fin 32, what = .channel c ∧ scope = 1 ∧ number = c ∧ extent = 3072) ∨
    (∃ n : Fin 64, what = .clip n ∧ scope = 2 ∧ number = n ∧ extent = 256)) :
    Scope.of scope number = some what ∧ extent = what.extent := by
  rcases h with ⟨rfl, rfl, rfl⟩ | ⟨c, rfl, rfl, rfl, rfl⟩ | ⟨n, rfl, rfl, rfl, rfl⟩
  · exact ⟨rfl, rfl⟩
  · exact ⟨dif_pos c.isLt, rfl⟩
  · exact ⟨dif_pos n.isLt, rfl⟩

theorem State.destOk_iff {s : State} {m : RegionMap} (map : s.map = some m) (dest extent : Nat) : s.destOk dest extent = true ↔
    dest % 64 = 0 ∧ m.statusArea.base ≤ dest ∧ dest + extent ≤ m.statusArea.base + m.statusArea.size := by
  simp [State.destOk, State.statusArea, map, and_assoc]

section
variable {s : State} {t : Ticket} {scope number : Nat}

theorem State.status_none (dest : Nat) (h : Scope.of scope number = none) :
    s.status t scope number dest = s.respond t.seq 15 .refusedRange 0 t.slot := by
  simp only [State.status, h]

theorem State.status_some {what : Scope} (dest : Nat) (h : Scope.of scope number = some what) : s.status t scope number dest =
    if s.destOk dest what.extent = true then s.takeSnapshot t what dest else s.respond t.seq 15 .refusedRange 0 t.slot := by
  simp only [State.status, h]

end

theorem State.clearScope_bus (s : State) (x : Scope) : (s.clearScope x).bus = s.bus := by
  cases x <;> rfl

theorem State.snapshotWords_taken (s : State) (x : Scope) : s.taken.snapshotWords x = s.snapshotWords x := by
  cases x <;> rfl

theorem State.takeSnapshot_bus (s : State) (t : Ticket) (x : Scope) (dest : Nat) : (s.takeSnapshot t x dest).bus = { s.bus with
    txns := s.bus.txns ++ (List.range (x.extent / 128)).map fun i =>
      ⟨s.bus.next + i, s.bus.next + i, 2, true, dest + 128 * i, 128,
        ((snapshotBytes (s.snapshotWords x) (x.extent / 4)).drop (128 * i)).take 128, List.replicate 128 true,
        .snapshot s.bus.next, false⟩
    next := s.bus.next + x.extent / 128 } := by
  have long : 128 * (0 + x.extent / 128) ≤ (s.snapshot x).length := by
    rw [State.snapshot_length]
    omega
  rw [State.takeSnapshot]
  dsimp only
  rw [Bus.writeSnapshot_eq _ _ _ _ _ _ long, State.clearScope_bus, State.snapshot_eq]
  simp only [Nat.zero_add]

theorem State.takeSnapshot_eq (s : State) (t : Ticket) (x : Scope) (dest : Nat) : s.takeSnapshot t x dest = { s.clearScope x with
    bus := (s.takeSnapshot t x dest).bus
    dir := { (s.clearScope x).dir with
      snapshots := (s.clearScope x).dir.snapshots ++ [⟨s.bus.next, t, x.extent / 128, false⟩] } } := rfl

/-! ## The answers to a snapshot's writes (R190) -/

theorem exec_statusWriteComplete {s : State} {x : Txn} {job : Nat} (routed : s.bus.issuedTxn x.id = some x)
    (owner : x.owner = .snapshot job) (a : Answer) :
    exec (.statusWriteComplete x.id a) s = .next ((s.left x).snapshotAnswered job a) := by
  refine congrArg Host.Outcome.next ((State.onResponse_self _ routed owner (by simp)).trans ?_)
  simp only [owner, State.completeTxn_eq_left]

theorem SnapshotJob.map_answered {front back : List SnapshotJob} {j : SnapshotJob}
    (others : ∀ k ∈ front ++ back, k.job ≠ j.job ∧ 0 < k.left) (a : Answer) :
    (front ++ j :: back).map (SnapshotJob.answered · j.job a) =
      front ++ { j with left := j.left - 1, failed := j.failed || decide (a = .error) } :: back := by
  have other (l : List SnapshotJob) (h : ∀ k ∈ l, k ∈ front ++ back) : l.map (SnapshotJob.answered · j.job a) = l :=
    (List.map_congr_left fun k mem => if_neg (others k (h k mem)).1).trans (List.map_id _)
  rw [List.map_append, List.map_cons, other front fun k mem => List.mem_append_left _ mem,
    other back fun k mem => List.mem_append_right _ mem]
  exact congrArg (front ++ · :: back) (if_pos rfl)

/-- The jobs that no write has finished. -/
theorem SnapshotJob.filter_left {l : List SnapshotJob} (h : ∀ k ∈ l, 0 < k.left) :
    l.filter (fun k => k.left == 0) = [] ∧ l.filter (fun k => k.left != 0) = l := by
  refine ⟨List.filter_eq_nil_iff.2 fun k mem => ?_, List.filter_eq_self.2 fun k mem => ?_⟩
  · have := h k mem
    simp
    omega
  · have := h k mem
    simp
    omega

/-- No snapshot has had its last write answered. -/
theorem State.answerSnapshots_none {s : State} (h : ∀ k ∈ s.dir.snapshots, 0 < k.left) : s.answerSnapshots = s := by
  obtain ⟨none_, all⟩ := SnapshotJob.filter_left h
  simp only [State.answerSnapshots, none_, all, List.foldl_nil]

/-- One snapshot has had its last write answered. -/
theorem State.answerSnapshots_one {s : State} {front back : List SnapshotJob} {j : SnapshotJob}
    (split : s.dir.snapshots = front ++ j :: back) (others : ∀ k ∈ front ++ back, 0 < k.left) (last : j.left = 0) :
    s.answerSnapshots = State.respond { s with dir := { s.dir with snapshots := front ++ back } } j.ticket.seq 15
      (if j.failed then .failed else .done) (if j.failed then 1 else 0) j.ticket.slot := by
  obtain ⟨none_, all⟩ := SnapshotJob.filter_left others
  rw [List.filter_append] at none_ all
  obtain ⟨noFront, noBack⟩ := List.append_eq_nil_iff.1 none_
  have ready : (front ++ j :: back).filter (fun k => k.left == 0) = [j] := by
    rw [List.filter_append, List.filter_cons_of_pos (by simp [last]), noFront, noBack]
    rfl
  have rest : (front ++ j :: back).filter (fun k => k.left != 0) = front ++ back := by
    rw [List.filter_append, List.filter_cons_of_neg (by simp [last]), all]
  simp only [State.answerSnapshots, split, ready, rest, List.foldl_cons, List.foldl_nil]
  split <;> rfl

end Sys2Proof.Machine

namespace Sys2Proof.Certificates.Slice0
open Sys2Proof.Machine

theorem exec_status_inHand {s : State} {seq slot scope number dest : Nat} (h : s.inHand (.status seq slot scope number dest)) :
    exec (.status seq slot scope number dest) s = .next (s.taken.status ⟨seq, slot⟩ scope number dest) :=
  congrArg Host.Outcome.next (State.takeDirective_of _ h)

/-- Settles O47. -/
theorem statusWritesASnapshot : Obligations.StatusWritesASnapshot := by
  intro s seq slot scope number dest m inHand map
  rw [exec_status_inHand inHand]
  refine ⟨fun none_ => congrArg Host.Outcome.next (State.status_none dest (Scope.of_none none_)), fun what extent named => ?_⟩
  obtain ⟨of, rfl⟩ := Scope.of_some named
  have ok := State.destOk_iff (s := s.taken) map dest what.extent
  rw [State.status_some dest of]
  refine ⟨fun off => ?_, fun aligned above below => ?_⟩
  · refine congrArg Host.Outcome.next (if_neg ?_)
    rw [ok]
    rintro ⟨aligned, above, below⟩
    rcases off with h | h | h
    · exact h aligned
    · omega
    · omega
  · refine ⟨_, congrArg Host.Outcome.next (if_pos (ok.2 ⟨aligned, above, below⟩)), ?_, ?_, ?_, ?_⟩
    · rw [State.takeSnapshot_bus, State.snapshotWords_taken]
      rfl
    · rintro rfl
      rfl
    · rintro c rfl
      refine (State.takeSnapshot_eq ..).trans ?_
      simp only [Scope.extent, Nat.reduceDiv]
      rfl
    · rintro n rfl
      refine (State.takeSnapshot_eq ..).trans ?_
      simp only [Scope.extent, Nat.reduceDiv]
      rfl

/-- Settles O48. -/
theorem statusIsAnsweredAtItsLastWrite : Obligations.StatusIsAnsweredAtItsLastWrite := by
  intro s x a front back j routed owner jobs others left failed
  obtain ⟨j', j'_⟩ : ∃ k, k = { j with left := j.left - 1, failed := failed } := ⟨_, rfl⟩
  have answered : (s.left x).snapshotAnswered j.job a =
      State.answerSnapshots { left with dir := { s.dir with snapshots := front ++ j' :: back } } := by
    rw [State.snapshotAnswered, show (s.left x).dir.snapshots = front ++ j :: back from jobs, SnapshotJob.map_answered others, j'_]
    rfl
  rw [exec_statusWriteComplete routed owner, answered]
  refine ⟨fun more => ?_, fun last => ?_⟩
  · rw [State.answerSnapshots_none, j'_]
    intro k mem
    rw [List.mem_append, List.mem_cons] at mem
    rcases mem with mem | rfl | mem
    · exact (others k (List.mem_append_left _ mem)).2
    · rw [j'_]
      exact Nat.sub_pos_of_lt more
    · exact (others k (List.mem_append_right _ mem)).2
  · rw [State.answerSnapshots_one rfl (fun k mem => (others k mem).2) (by rw [j'_]; exact Nat.sub_eq_zero_of_le last.le), j'_]

end Sys2Proof.Certificates.Slice0

namespace Sys2Proof.Machine

/-! ## BIND (R79) -/

theorem emptySlot_eq_some {t : Vector (Option Binding) 8} {i : Fin 8} (empty : t[i] = none) (lowest : ∀ j : Fin 8, j < i → t[j] ≠ none) :
    emptySlot t = some i := by
  rw [emptySlot, List.find?_eq_some_iff_getElem]
  refine ⟨by simp only [empty, Option.isNone_none], i.val, by simp, by simp, fun j lt => ?_⟩
  have := lowest ⟨j, by omega⟩ lt
  simpa [← Option.ne_none_iff_isSome] using this

theorem emptySlot_eq_none {t : Vector (Option Binding) 8} (full : ∀ i : Fin 8, t[i] ≠ none) : emptySlot t = none := by
  rw [emptySlot, List.find?_eq_none]
  intro i _
  simpa [← Option.ne_none_iff_isSome] using full i

section
variable {s : State} {t : Ticket} {f : BindFields}

theorem State.bind_channel_range (h : 31 < f.channel) : s.bind t f = s.respond t.seq 4 .refusedRange 0 t.slot :=
  dif_neg (by omega)

theorem State.bind_key_range (h : keyOf f.key = none) : s.bind t f = s.respond t.seq 4 .refusedRange 0 t.slot := by
  simp only [State.bind, h]
  split <;> rfl

/-- What BIND does with a key that is in range, on a channel. -/
theorem State.bind_key {c : Fin 32} (channel : f.channel = c) {key : Option Nat} (inRange : keyOf f.key = some key) : s.bind t f =
    if f.podLength = 0 ∨ 4 < f.podLength ∨ (f.clips.take f.podLength).any (fun n => decide (63 < n)) = true then
      s.respond t.seq 4 .refusedRange 0 t.slot
    else if ((f.clips.take f.podLength).map fun n => Fin.ofNat 64 n).any (fun n => (s.clip n).state != .ready) = true then
      s.respond t.seq 4 .refusedState 0 t.slot
    else ((slotOfKey (s.bindingTable c) key).or (emptySlot (s.bindingTable c))).elim (s.respond t.seq 4 .refusedFull 0 t.slot) fun i =>
      (s.setBindings c ((s.bindingTable c).set i (some ⟨key, f.uses, (f.clips.take f.podLength).map fun n => Fin.ofNat 64 n⟩))).respond
        t.seq 4 .done 0 t.slot := by
  have lt : f.channel < 32 := by omega
  have same : (⟨f.channel, lt⟩ : Fin 32) = c := Fin.ext channel
  simp only [State.bind, lt, dif_pos, inRange, same]
  split
  · rfl
  · split
    · rfl
    · cases (slotOfKey (s.bindingTable c) key).or (emptySlot (s.bindingTable c)) <;> rfl

theorem State.bind_pod_range (h : f.podLength = 0 ∨ 4 < f.podLength ∨ ∃ k ∈ f.clips.take f.podLength, 63 < k) :
    s.bind t f = s.respond t.seq 4 .refusedRange 0 t.slot := by
  by_cases channel : f.channel < 32
  · cases inRange : keyOf f.key with
    | none => exact State.bind_key_range inRange
    | some key =>
      rw [State.bind_key (c := ⟨f.channel, channel⟩) rfl inRange]
      exact if_pos (by simpa using h)
  · exact State.bind_channel_range (by omega)

/-- A pod in range is tested, and then finds its slot. -/
theorem State.bind_pod {c : Fin 32} (channel : f.channel = c) {key : Option Nat} (inRange : keyOf f.key = some key)
    {pod : List (Fin 64)} (some_ : 1 ≤ f.podLength) (few : f.podLength ≤ 4) (named : f.clips.take f.podLength = pod.map Fin.val) :
    s.bind t f =
      if pod.any (fun n => (s.clip n).state != .ready) = true then s.respond t.seq 4 .refusedState 0 t.slot
      else ((slotOfKey (s.bindingTable c) key).or (emptySlot (s.bindingTable c))).elim (s.respond t.seq 4 .refusedFull 0 t.slot)
        fun i => (s.setBindings c ((s.bindingTable c).set i (some ⟨key, f.uses, pod⟩))).respond t.seq 4 .done 0 t.slot := by
  have isPod : (pod.map Fin.val).map (fun n => Fin.ofNat 64 n) = pod := by
    rw [List.map_map]
    exact (List.map_congr_left fun n _ => Fin.ext (Nat.mod_eq_of_lt n.isLt)).trans (List.map_id _)
  have inStore : ¬ (f.podLength = 0 ∨ 4 < f.podLength ∨ (pod.map Fin.val).any (fun n => decide (63 < n)) = true) := by
    simp only [List.any_eq_true, List.mem_map, decide_eq_true_eq]
    rintro (h | h | ⟨_, ⟨n, -, rfl⟩, h⟩) <;> omega
  rw [State.bind_key channel inRange, named, if_neg inStore, isPod]

end

/-! ## CLIP_FREE (R74 to R76) -/

section
variable {s : State} {n : Fin 64}

/-- An avail that plays has the clip in its pod. -/
def State.inPod (s : State) (n : Fin 64) : Prop :=
  ∃ c : Fin 32, (s.chan c).state = .insert ∧ ∃ a, (s.chan c).avail = some a ∧ n ∈ a.pod

/-- A binding has the clip in its pod. -/
def State.isBound (s : State) (n : Fin 64) : Prop :=
  ∃ (c : Fin 32) (i : Fin 8) (b : Binding), (s.bindingTable c)[i] = some b ∧ n ∈ b.pod

/-- A queued event has the clip in its pod. -/
def State.isAwaited (s : State) (n : Fin 64) : Prop :=
  ∃ c : Fin 32, ∃ e ∈ (s.chan c).queue, n ∈ e.pod

theorem State.inPod_iff : ((List.finRange 32).any fun c => (s.chan c).state == .insert && (s.chan c).avail.any fun a => a.pod.contains n) =
    true ↔ s.inPod n := by
  simp [State.inPod, Option.any_eq_true]

theorem State.isBound_iff : ((List.finRange 32).any fun c => (s.bindingTable c).any fun b => b.any fun b => b.pod.contains n) = true ↔
    s.isBound n := by
  simp only [List.any_eq_true, List.mem_finRange, true_and, Vector.any_eq_true, Option.any_eq_true, List.contains_iff_mem, State.isBound]
  refine exists_congr fun c => ⟨fun ⟨i, lt, b, found, mem⟩ => ⟨⟨i, lt⟩, b, found, mem⟩, fun ⟨i, b, found, mem⟩ => ⟨i, i.isLt, b, found, mem⟩⟩

theorem State.isAwaited_iff : ((List.finRange 32).any fun c => (s.chan c).queue.any fun e => e.pod.contains n) = true ↔ s.isAwaited n := by
  simp [State.isAwaited]

/-- What CLIP_FREE does with a clip that is not FREE. -/
theorem State.clipFree_used {t : Ticket} {clip : Nat} (is : clip = n) (used : (s.clip n).state ≠ .free) : s.clipFree t clip =
    match s.clipUse n with
    | some detail => s.respond t.seq 3 .refusedInUse detail t.slot
    | none =>
      if (s.clip n).state = .queued ∨ (s.clip n).state = .verifying then s.cancelLoad n t
      else (s.mapClip n fun _ => Clip.reset).respond t.seq 3 .done 0 t.slot := by
  subst is
  exact (dif_pos n.isLt).trans (if_neg used)

theorem State.clipFree_refused {t : Ticket} {clip : Nat} (is : clip = n) (used : (s.clip n).state ≠ .free) {detail : Nat}
    (named : s.clipUse n = some detail) : s.clipFree t clip = s.respond t.seq 3 .refusedInUse detail t.slot := by
  rw [State.clipFree_used is used, named]

theorem State.clipFree_freed {t : Ticket} {clip : Nat} (is : clip = n) (used : (s.clip n).state ≠ .free)
    (named : s.clipUse n = none) : s.clipFree t clip =
      if (s.clip n).state = .queued ∨ (s.clip n).state = .verifying then s.cancelLoad n t
      else (s.mapClip n fun _ => Clip.reset).respond t.seq 3 .done 0 t.slot := by
  rw [State.clipFree_used is used, named]

theorem State.beginPass_empty (h : s.verifyQueue = []) : s.beginPass = s := by
  rcases s.beginPass_cases with ⟨e, -⟩ | ⟨k, rest, queue, -, -⟩
  · exact e
  · rw [h] at queue
    cases queue

theorem State.beginPass_busy {k : Fin 64} (h : (s.clip k).state = .verifying) : s.beginPass = s := by
  rcases s.beginPass_cases with ⟨e, -⟩ | ⟨_, _, -, idle, -⟩
  · exact e
  · exact absurd h (idle k)

theorem State.beginPass_head {k : Fin 64} {rest : List (Fin 64)} (queue : s.verifyQueue = k :: rest)
    (idle : ∀ k, (s.clip k).state ≠ .verifying) : s.beginPass = (s.passBegun k rest).requestVerify k := by
  rcases s.beginPass_cases with ⟨-, empty | ⟨k, v⟩⟩ | ⟨k', rest', queue', -, e⟩
  · rw [queue] at empty
    cases empty
  · exact absurd v (idle k)
  · rw [queue] at queue'
    cases queue'
    exact e

theorem State.requestVerify_waits (h : s.bus.verifying = true) (k : Fin 64) : s.requestVerify k = s :=
  if_pos h

/-- R67: the state with the read of the cell at the cursor of clip `k` asked for. -/
def State.verifyAsked (s : State) (k : Fin 64) : State :=
  { s with
    bus := s.bus.read 4 ((s.clip k).base + 192 * (s.clip k).cursor) 192 (.verify k)
    verifyRead := some s.bus.next }

theorem State.requestVerify_asks (h : s.bus.verifying = false) (k : Fin 64) : s.requestVerify k = s.verifyAsked k :=
  if_neg (by rw [h]; decide)

/-- A read that is outstanding stays so when the part asks for other transactions. -/
theorem Bus.verifying_append {b : Bus} (h : b.verifying = true) {txns : List Txn} {next : Nat} {choices : Nat} :
    ({ txns := b.txns ++ txns, next := next, choices := choices } : Bus).verifying = true := by
  obtain ⟨x, mem, owner⟩ := (Bus.verifying_iff b).1 h
  exact (Bus.verifying_iff _).2 ⟨x, List.mem_append_left _ mem, owner⟩

/-- The answers to a cancelled load and to its CLIP_FREE. -/
def State.freeAnswered (s : State) (load t : Ticket) : State :=
  (s.respond load.seq 2 .cancelled 0 load.slot).respond t.seq 3 .done 0 t.slot

theorem State.cancelLoad_owed {load : Ticket} (owed : (s.clip n).owed = some load) (t : Ticket) :
    s.cancelLoad n t = ((s.cancelled n).freeAnswered load t).beginPass := by
  rw [State.cancelLoad_eq, owed]
  rfl

/-- R75: the load of a clip that waits is cancelled. -/
theorem State.cancelLoad_queued {load : Ticket} (owed : (s.clip n).owed = some load) (order : s.oneVerifies)
    (queued : (s.clip n).state = .queued) (t : Ticket) : s.cancelLoad n t =
      State.freeAnswered { s with clips := s.clips.set n Clip.reset, verifyQueue := s.verifyQueue.filter fun k => k ≠ n } load t := by
  obtain ⟨-, -, inQueue, waits, -⟩ := order
  obtain ⟨k, v⟩ := waits (List.ne_nil_of_mem ((inQueue n).2 queued))
  have ne : k ≠ n := by
    rintro rfl
    rw [v] at queued
    cases queued
  have state : s.cancelled n = { s with clips := s.clips.set n Clip.reset, verifyQueue := s.verifyQueue.filter fun k => k ≠ n } := by
    have filter : s.verifyQueue.filter (· != n) = s.verifyQueue.filter fun k => k ≠ n := List.filter_congr fun k _ => by simp [bne, beq_eq_decide]
    have read : ¬ (s.clip n).state = .verifying := by
      rw [queued]
      decide
    rw [State.cancelled, State.unqueued, filter, if_neg read]
    rfl
  rw [State.cancelLoad_owed owed, state]
  have kept : (s.cancelled n).clip k = s.clip k := State.cancelled_other ne
  rw [state] at kept
  exact State.beginPass_busy (k := k) ((congrArg Clip.state kept).trans v)

theorem State.cancelled_of_verifying (order : s.oneVerifies) (v : (s.clip n).state = .verifying) :
    s.cancelled n = { s with clips := s.clips.set n Clip.reset, verifyRead := none } := by
  obtain ⟨-, -, inQueue, -⟩ := order
  have other : n ∉ s.verifyQueue := by
    rw [inQueue n, v]
    decide
  have filter : s.verifyQueue.filter (· != n) = s.verifyQueue :=
    List.filter_eq_self.2 fun k mem => bne_iff_ne.2 fun e => other (e ▸ mem)
  rw [State.cancelled, State.unqueued, filter, if_pos v]
  rfl

/-- R75: the load of the VERIFYING clip is cancelled, and none waits. -/
theorem State.cancelLoad_last {load : Ticket} (owed : (s.clip n).owed = some load) (order : s.oneVerifies)
    (v : (s.clip n).state = .verifying) (empty : s.verifyQueue = []) (t : Ticket) : s.cancelLoad n t =
      State.freeAnswered { s with clips := s.clips.set n Clip.reset, verifyRead := none } load t := by
  rw [State.cancelLoad_owed owed, State.cancelled_of_verifying order v]
  exact State.beginPass_empty empty

/-- R75: the load of the VERIFYING clip is cancelled, and the next pass begins, its read behind the one outstanding. -/
theorem State.cancelLoad_next {load : Ticket} (owed : (s.clip n).owed = some load) (order : s.oneVerifies)
    (v : (s.clip n).state = .verifying) {k : Fin 64} {more : List (Fin 64)} (queue : s.verifyQueue = k :: more) (t : Ticket) :
    s.cancelLoad n t = State.freeAnswered { s with
      clips := (s.clips.set n Clip.reset).set k { s.clip k with state := .verifying, cursor := 0 }
      verifyQueue := more
      verifyRead := none } load t := by
  have cancelled := State.cancelled_of_verifying order v
  obtain ⟨one, -, inQueue, -, -, -, -, reading⟩ := order
  have ne : k ≠ n := by
    rintro rfl
    have := (inQueue k).1 (queue ▸ List.mem_cons_self ..)
    rw [v] at this
    cases this
  have idle (j : Fin 64) : ((s.cancelled n).clip j).state ≠ .verifying := fun w =>
    (State.cancelled_verifying w).1 (one j n (State.cancelled_verifying w).2 v)
  have kept : (s.cancelled n).clip k = s.clip k := State.cancelled_other ne
  rw [cancelled] at idle kept
  obtain ⟨x, mem, owner⟩ := reading ⟨n, v⟩
  have busy : s.bus.verifying = true := (Bus.verifying_iff _).2 ⟨x, mem, (Owner.verifies_iff _).1 owner⟩
  rw [State.cancelLoad_owed owed, cancelled]
  refine (State.beginPass_head (k := k) (rest := more) ?_ ?_).trans ((State.requestVerify_waits ?_ k).trans ?_)
  · exact queue
  · exact idle
  · exact Bus.verifying_append (Bus.verifying_append busy)
  · rw [← kept]
    rfl

end

end Sys2Proof.Machine

namespace Sys2Proof.Certificates.Slice0
open Sys2Proof.Machine

theorem exec_bind_inHand {s : State} {seq slot : Nat} {f : BindFields} (h : s.inHand (.bind seq slot f)) :
    exec (.bind seq slot f) s = .next (s.taken.bind ⟨seq, slot⟩ f) :=
  congrArg Host.Outcome.next (State.takeDirective_of _ h)

/-- Settles O32. -/
theorem bindStoresInItsKeysSlot : Obligations.BindStoresInItsKeysSlot := by
  intro s seq slot f inHand
  rw [exec_bind_inHand inHand]
  refine ⟨fun h => congrArg Host.Outcome.next ?_, fun c key pod channel isKey some_ few named => ?_⟩
  · rcases h with h | h | h
    · exact State.bind_channel_range h
    · exact State.bind_key_range ((keyOf_eq_none_iff _).2 h)
    · exact State.bind_pod_range h
  have bind := State.bind_pod (s := s.taken) (t := ⟨seq, slot⟩) channel ((keyOf_eq_some_iff _ _).2 isKey) some_ few named
  rw [bind]
  refine ⟨fun ⟨n, mem, unready⟩ => ?_, fun ready => ?_⟩
  · refine congrArg Host.Outcome.next (if_pos ?_)
    exact List.any_eq_true.2 ⟨n, mem, bne_iff_ne.2 unready⟩
  rw [if_neg]
  · refine ⟨fun i bound unique => ?_, fun unbound => ⟨fun i empty lowest => ?_, fun full => ?_⟩⟩
    · obtain ⟨b, bound, key⟩ := bound
      rw [slotOfKey_of_unique (t := s.taken.bindingTable c) bound key unique]
      rfl
    · rw [(slotOfKey_eq_none_iff (s.taken.bindingTable c) key).2 unbound, emptySlot_eq_some (t := s.taken.bindingTable c) empty lowest]
      rfl
    · rw [(slotOfKey_eq_none_iff (s.taken.bindingTable c) key).2 unbound, emptySlot_eq_none (t := s.taken.bindingTable c) full]
      rfl
  · simp only [List.any_eq_true, bne_iff_ne]
    rintro ⟨n, mem, unready⟩
    exact unready (ready n mem)

theorem exec_clipFree_inHand {s : State} {seq slot clip : Nat} (h : s.inHand (.clipFree seq slot clip)) :
    exec (.clipFree seq slot clip) s = .next (s.taken.clipFree ⟨seq, slot⟩ clip) :=
  congrArg Host.Outcome.next (State.takeDirective_of _ h)

/-- Settles O31. -/
theorem clipFreeReleasesOrRefuses : Obligations.ClipFreeReleasesOrRefuses := by
  intro s seq slot clip inHand
  have run := exec_clipFree_inHand inHand
  refine ⟨fun h => run.trans (congrArg Host.Outcome.next (dif_neg (by omega))), ?_⟩
  intro n is refused inPod bound queued
  have refuses {detail : Nat} (used : (s.clip n).state ≠ .free) (named : s.taken.clipUse n = some detail) :
      refused .refusedInUse detail :=
    run.trans (congrArg Host.Outcome.next (State.clipFree_refused (s := s.taken) (t := ⟨seq, slot⟩) is used named))
  refine ⟨fun free => ?_, fun used => ⟨fun plays => refuses used (if_pos plays), fun idle => ?_⟩⟩
  · subst is
    exact run.trans <| congrArg Host.Outcome.next ((dif_pos n.isLt).trans (if_pos free))
  have notPlaying : ¬ 0 < (s.clip n).plays := by omega
  have playing : s.taken.clipUse n = _ := if_neg notPlaying
  refine ⟨fun pod => ?_, fun noPod b => ?_, fun noPod noBinding q => ?_, fun noPod noBinding noEvent => ?_⟩
  · exact refuses used (playing.trans (if_pos (State.inPod_iff.2 pod)))
  · exact refuses used (playing.trans ((if_neg (State.inPod_iff.not.2 noPod)).trans (if_pos (State.isBound_iff.2 b))))
  · exact refuses used (playing.trans ((if_neg (State.inPod_iff.not.2 noPod)).trans
      ((if_neg (State.isBound_iff.not.2 noBinding)).trans (if_pos (State.isAwaited_iff.2 q)))))
  have unnamed : s.taken.clipUse n = none := playing.trans ((if_neg (State.inPod_iff.not.2 noPod)).trans
    ((if_neg (State.isBound_iff.not.2 noBinding)).trans (if_neg (State.isAwaited_iff.not.2 noEvent))))
  have freed := State.clipFree_freed (s := s.taken) (t := ⟨seq, slot⟩) is used unnamed
  rw [run, freed]
  refine ⟨fun done => congrArg Host.Outcome.next (if_neg ?_), fun load owed order => ?_⟩
  · show ¬ ((s.clip n).state = .queued ∨ (s.clip n).state = .verifying)
    rcases done with h | h <;> rw [h] <;> decide
  have order' : s.taken.oneVerifies := order
  refine ⟨fun isQueued => ?_, fun verifying => ⟨fun empty => ?_, fun k more queue => ?_⟩⟩
  · exact congrArg Host.Outcome.next ((if_pos (.inl isQueued)).trans (State.cancelLoad_queued (s := s.taken) owed order' isQueued _))
  · exact congrArg Host.Outcome.next ((if_pos (.inr verifying)).trans (State.cancelLoad_last (s := s.taken) owed order' verifying empty _))
  · exact congrArg Host.Outcome.next ((if_pos (.inr verifying)).trans (State.cancelLoad_next (s := s.taken) owed order' verifying queue _))

end Sys2Proof.Certificates.Slice0

namespace Sys2Proof.Machine

/-! ## The stream map of a CLIP_LOAD (R64) -/

theorem distinct_iff {α : Type} [BEq α] [LawfulBEq α] (l : List α) : distinct l = true ↔ l.Nodup := by
  induction l with
  | nil => simp [distinct]
  | cons x l ih => simp [distinct, ih]

theorem Role.ofCode_eq_some_iff (k : Nat) (r : Role) : Role.ofCode k = some r ↔ r.idx.val = k := by
  rcases k with _ | _ | _ | _ | _ | _ | k <;> cases r <;> simp [Role.ofCode, Role.idx]

theorem Role.ofCode_eq_none_iff (k : Nat) : Role.ofCode k = none ↔ 5 < k := by
  rcases k with _ | _ | _ | _ | _ | _ | k <;> simp [Role.ofCode]

theorem Role.idx_injective : Function.Injective fun r : Role => r.idx.val := by
  intro r r' h
  exact Option.some.inj (((Role.ofCode_eq_some_iff _ r).2 h).symm.trans ((Role.ofCode_eq_some_iff _ r').2 rfl))

/-- The entries of a stream map as CLIP_LOAD carries them. -/
def mapEntries (m : List (Nat × Role)) : List (Nat × Nat) :=
  m.map fun e => (e.1, e.2.idx.val)

/-- A map entry read. -/
def readEntry (e : Nat × Nat) : Option (Nat × Role) :=
  (Role.ofCode e.2).map fun r => (e.1, r)

theorem readEntry_eq_some_iff (e : Nat × Nat) (x : Nat × Role) : readEntry e = some x ↔ (x.1, x.2.idx.val) = e := by
  obtain ⟨pid, code⟩ := e
  obtain ⟨pid', r⟩ := x
  simp only [readEntry, Option.map_eq_some_iff, Prod.mk.injEq]
  constructor
  · rintro ⟨r', read, rfl, rfl⟩
    exact ⟨rfl, (Role.ofCode_eq_some_iff _ _).1 read⟩
  · rintro ⟨rfl, spelt⟩
    exact ⟨r, (Role.ofCode_eq_some_iff _ _).2 spelt, rfl, rfl⟩

theorem mapM_readEntry_eq_some_iff (l : List (Nat × Nat)) (m : List (Nat × Role)) :
    l.mapM readEntry = some m ↔ mapEntries m = l := by
  induction l generalizing m with
  | nil => cases m <;> simp [mapEntries]
  | cons e l ih =>
    cases m with
    | nil => simp [mapEntries, List.mapM_cons, Option.bind_eq_some_iff]
    | cons x m =>
      simp only [List.mapM_cons, Option.bind_eq_bind, Option.bind_eq_some_iff, Option.pure_def, Option.some.injEq, List.cons.injEq,
        mapEntries, List.map_cons]
      constructor
      · rintro ⟨x', hx, m', hm, rfl, rfl⟩
        exact ⟨(readEntry_eq_some_iff _ _).1 hx, (ih _).1 hm⟩
      · rintro ⟨hx, hm⟩
        exact ⟨x, (readEntry_eq_some_iff _ _).2 hx, m, (ih _).2 hm, rfl, rfl⟩

theorem mapM_readEntry_eq_none {l : List (Nat × Nat)} (h : ∃ e ∈ l, 5 < e.2) : l.mapM readEntry = none := by
  cases found : l.mapM readEntry with
  | none => rfl
  | some m =>
    obtain ⟨e, mem, large⟩ := h
    rw [← (mapM_readEntry_eq_some_iff l m).1 found, mapEntries, List.mem_map] at mem
    obtain ⟨x, -, rfl⟩ := mem
    exact absurd x.2.idx.isLt (by omega)

theorem exists_mapEntries {l : List (Nat × Nat)} (h : ∀ e ∈ l, e.2 ≤ 5) : ∃ m, mapEntries m = l := by
  induction l with
  | nil => exact ⟨[], rfl⟩
  | cons e l ih =>
    obtain ⟨m, rfl⟩ := ih fun x mem => h x (List.mem_cons_of_mem _ mem)
    have le := h e (List.mem_cons_self ..)
    cases code : Role.ofCode e.2 with
    | none => exact absurd ((Role.ofCode_eq_none_iff _).1 code) (by omega)
    | some r =>
      refine ⟨(e.1, r) :: m, ?_⟩
      rw [mapEntries, List.map_cons, (Role.ofCode_eq_some_iff _ _).1 code]
      rfl

/-- Two entries of a CLIP_LOAD share a PID or a role. -/
def loadRepeats (f : ClipLoadFields) : Prop :=
  ∃ i j a b, i < j ∧ j < f.mapCount ∧ f.entries[i]? = some a ∧ f.entries[j]? = some b ∧ (a.1 = b.1 ∨ a.2 = b.2)

theorem loadRepeats_iff (f : ClipLoadFields) : loadRepeats f ↔
    ¬ (((f.entries.take f.mapCount).map Prod.fst).Nodup ∧ ((f.entries.take f.mapCount).map Prod.snd).Nodup) := by
  have used {i : Nat} (lt : i < f.mapCount) : (f.entries.take f.mapCount)[i]? = f.entries[i]? := List.getElem?_take_of_lt lt
  rw [not_and_or, List.nodup_iff_getElem?_ne_getElem?, List.nodup_iff_getElem?_ne_getElem?]
  simp only [not_forall, List.length_map, List.getElem?_map, ne_eq, not_not]
  have len : (f.entries.take f.mapCount).length ≤ f.mapCount := List.length_take_le ..
  constructor
  · rintro ⟨i, j, a, b, lt, ltCount, ha, hb, same⟩
    have inUsed : j < (f.entries.take f.mapCount).length := by
      rw [← used ltCount, List.getElem?_eq_some_iff] at hb
      exact hb.1
    rw [← used (lt.trans ltCount)] at ha
    rw [← used ltCount] at hb
    rcases same with same | same
    · exact .inl ⟨i, j, lt, inUsed, by rw [ha, hb, Option.map_some, Option.map_some, same]⟩
    · exact .inr ⟨i, j, lt, inUsed, by rw [ha, hb, Option.map_some, Option.map_some, same]⟩
  · have both {i j : Nat} (lt : i < j) (inUsed : j < (f.entries.take f.mapCount).length) : ∃ a b,
        (f.entries.take f.mapCount)[i]? = some a ∧ (f.entries.take f.mapCount)[j]? = some b ∧
          f.entries[i]? = some a ∧ f.entries[j]? = some b := by
      refine ⟨_, _, List.getElem?_eq_getElem (lt.trans inUsed), List.getElem?_eq_getElem inUsed, ?_, ?_⟩
      · rw [← used (by omega), List.getElem?_eq_getElem (lt.trans inUsed)]
      · rw [← used (by omega), List.getElem?_eq_getElem inUsed]
    rintro (⟨i, j, lt, inUsed, same⟩ | ⟨i, j, lt, inUsed, same⟩)
    all_goals
      obtain ⟨a, b, ha, hb, ha', hb'⟩ := both lt inUsed
      rw [ha, hb, Option.map_some, Option.map_some, Option.some.injEq] at same
    · exact ⟨i, j, a, b, lt, by omega, ha', hb', .inl same⟩
    · exact ⟨i, j, a, b, lt, by omega, ha', hb', .inr same⟩

/-- The stream map of a CLIP_LOAD fails its test. -/
def badStreamMap (f : ClipLoadFields) : Prop :=
  f.mapCount = 0 ∨ 8 < f.mapCount ∨ (∃ e ∈ f.entries.take f.mapCount, 8190 < e.1 ∨ 5 < e.2) ∨
    (∀ e ∈ f.entries.take f.mapCount, e.2 ≠ 0) ∨ loadRepeats f

theorem streamMapOf_spelt {f : ClipLoadFields} {m : List (Nat × Role)} (spelt : mapEntries m = f.entries.take f.mapCount) :
    streamMapOf f = if 1 ≤ f.mapCount && f.mapCount ≤ 8 && (f.entries.take f.mapCount).all (fun e => decide (e.1 ≤ 8190)) &&
        distinct (m.map Prod.fst) && distinct (m.map Prod.snd) && m.any (fun e => e.2 == .video) then some m else none := by
  have read : (f.entries.take f.mapCount).mapM (fun e => (Role.ofCode e.2).map fun r => (e.1, r)) = some m :=
    (mapM_readEntry_eq_some_iff _ _).2 spelt
  simp only [streamMapOf, read]

theorem mapEntries_fst (m : List (Nat × Role)) : (mapEntries m).map Prod.fst = m.map Prod.fst := by
  simp [mapEntries, Function.comp_def]

theorem mapEntries_snd_nodup (m : List (Nat × Role)) : ((mapEntries m).map Prod.snd).Nodup ↔ (m.map Prod.snd).Nodup := by
  have image : (mapEntries m).map Prod.snd = (m.map Prod.snd).map fun r => r.idx.val := by
    simp [mapEntries, Function.comp_def]
  rw [image, List.nodup_map_iff Role.idx_injective]

theorem mapEntries_video (m : List (Nat × Role)) : m.any (fun e => e.2 == .video) = true ↔ ∃ e ∈ mapEntries m, e.2 = 0 := by
  have zero (r : Role) : r = .video ↔ r.idx.val = 0 := by cases r <;> simp [Role.idx]
  simp [mapEntries, zero]

/-- The test of a stream map that can be read. -/
theorem streamMapOf_test {f : ClipLoadFields} {m : List (Nat × Role)} (spelt : mapEntries m = f.entries.take f.mapCount) :
    (1 ≤ f.mapCount && f.mapCount ≤ 8 && (f.entries.take f.mapCount).all (fun e => decide (e.1 ≤ 8190)) &&
      distinct (m.map Prod.fst) && distinct (m.map Prod.snd) && m.any (fun e => e.2 == .video)) = true ↔ ¬ badStreamMap f := by
  have roles : ∀ e ∈ f.entries.take f.mapCount, e.2 ≤ 5 := by
    rw [← spelt]
    intro e mem
    obtain ⟨x, -, rfl⟩ := List.mem_map.1 mem
    exact Nat.le_of_lt_succ x.2.idx.isLt
  simp only [Bool.and_eq_true, decide_eq_true_eq, List.all_eq_true, distinct_iff, mapEntries_video, ← mapEntries_snd_nodup,
    ← mapEntries_fst, spelt, badStreamMap, loadRepeats_iff f]
  constructor
  · rintro ⟨⟨⟨⟨⟨low, high⟩, pids⟩, fst⟩, snd⟩, e, mem, video⟩ (h | h | ⟨x, memX, h | h⟩ | h | h)
    · omega
    · omega
    · exact absurd (pids x memX) (by omega)
    · exact absurd (roles x memX) (by omega)
    · exact h e mem video
    · exact h ⟨fst, snd⟩
  · intro good
    simp only [not_or, not_exists, not_and, not_not, not_forall] at good
    obtain ⟨low, high, fields, ⟨e, mem, video⟩, fst, snd⟩ := good
    exact ⟨⟨⟨⟨⟨by omega, by omega⟩, fun x memX => Nat.le_of_not_lt (fields x memX).1⟩, fst⟩, snd⟩, e, mem, video⟩

theorem streamMapOf_bad {f : ClipLoadFields} (bad : badStreamMap f) : streamMapOf f = none := by
  by_cases roles : ∃ e ∈ f.entries.take f.mapCount, 5 < e.2
  · have unread : (f.entries.take f.mapCount).mapM (fun e => (Role.ofCode e.2).map fun r => (e.1, r)) = none :=
      mapM_readEntry_eq_none roles
    simp only [streamMapOf, unread]
  · simp only [not_exists, not_and, Nat.not_lt] at roles
    obtain ⟨m, spelt⟩ := exists_mapEntries roles
    rw [streamMapOf_spelt spelt, if_neg]
    rw [streamMapOf_test spelt]
    exact not_not.2 bad

theorem streamMapOf_good {f : ClipLoadFields} {m : List (Nat × Role)} (spelt : mapEntries m = f.entries.take f.mapCount)
    (good : ¬ badStreamMap f) : streamMapOf f = some m := by
  rw [streamMapOf_spelt spelt]
  exact if_pos ((streamMapOf_test spelt).2 good)

/-! ## CLIP_LOAD (R64 to R67) -/

theorem Clip.guarded_iff (x : Clip) : x.guarded = true ↔ x.state = .queued ∨ x.state = .verifying ∨ x.state = .ready := by
  simp [Clip.guarded, or_assoc]

theorem State.clipOverlap_iff (s : State) (n : Fin 64) (base cells : Nat) : s.clipOverlap n base cells = true ↔
    ∃ k : Fin 64, k ≠ n ∧ (s.clip k).state ≠ .free ∧ ∃ b, (s.clip k).has b ∧ base ≤ b ∧ b < base + 192 * cells := by
  have meets (k : Fin 64) : rangesMeet base (192 * cells) (s.clip k).base (192 * (s.clip k).cells) = true ↔
      ∃ b, (s.clip k).has b ∧ base ≤ b ∧ b < base + 192 * cells := by
    refine (rangesMeet_iff ⟨base, 192 * cells⟩ ⟨(s.clip k).base, 192 * (s.clip k).cells⟩).trans (exists_congr fun b => ?_)
    exact and_comm
  simp only [State.clipOverlap, List.any_eq_true, List.mem_finRange, true_and, Bool.and_eq_true, bne_iff_ne, meets, and_assoc]

section
variable {s : State} {n : Fin 64} {f : ClipLoadFields} {t : Ticket} {area : Span}

theorem State.clipLoadTest_guarded (h : (s.clip n).guarded = true) : s.clipLoadTest n f = .error .refusedState :=
  if_pos h

/-- The range or the stream map of a CLIP_LOAD is not lawful. -/
def loadOutOfRange (f : ClipLoadFields) (area : Span) : Prop :=
  f.cells = 0 ∨ 1048576 < f.cells ∨ f.base % 64 ≠ 0 ∨ f.base < area.base ∨ area.base + area.size < f.base + 192 * f.cells ∨ badStreamMap f

theorem State.clipLoadTest_range (free : (s.clip n).guarded ≠ true) (bad : loadOutOfRange f s.clipArea) :
    s.clipLoadTest n f = .error .refusedRange := by
  unfold State.clipLoadTest
  dsimp only
  rw [if_neg free]
  split
  · rfl
  · next cells =>
    split
    · rfl
    · next place =>
      have badMap : badStreamMap f := by
        rcases bad with h | h | h | h | h | h
        · exact absurd (.inl h) cells
        · exact absurd (.inr h) cells
        · exact absurd (.inl h) place
        · exact absurd (.inr (.inl h)) place
        · exact absurd (.inr (.inr h)) place
        · exact h
      rw [streamMapOf_bad badMap]

theorem State.clipLoadTest_lawful (free : (s.clip n).guarded ≠ true) (good : ¬ loadOutOfRange f s.clipArea) {m : List (Nat × Role)}
    (spelt : mapEntries m = f.entries.take f.mapCount) :
    s.clipLoadTest n f = if s.clipOverlap n f.base f.cells = true then .error .refusedState else .ok m := by
  simp only [loadOutOfRange, not_or] at good
  obtain ⟨some_, few, aligned, above, below, map⟩ := good
  unfold State.clipLoadTest
  dsimp only
  rw [if_neg free, if_neg (by rintro (h | h); exacts [some_ h, few h]),
    if_neg (by rintro (h | h | h); exacts [aligned h, above h, below h]), streamMapOf_good spelt map]

theorem State.clipLoad_refused (is : f.clip = n) {r : DirectiveResult} (test : s.clipLoadTest n f = .error r) :
    s.clipLoad t f = s.respond t.seq 2 r 0 t.slot := by
  have lt : f.clip < 64 := by omega
  have same : (⟨f.clip, lt⟩ : Fin 64) = n := Fin.ext is
  simp only [State.clipLoad, lt, dif_pos, same, test]

theorem State.clipLoad_accepted (is : f.clip = n) {m : List (Nat × Role)} (test : s.clipLoadTest n f = .ok m) :
    s.clipLoad t f = s.acceptLoad n t f m := by
  have lt : f.clip < 64 := by omega
  have same : (⟨f.clip, lt⟩ : Fin 64) = n := Fin.ext is
  simp only [State.clipLoad, lt, dif_pos, same, test]

/-- R66: with the store idle, the loaded clip is VERIFYING at once. -/
theorem State.loaded_passBegun (m : List (Nat × Role)) (empty : s.verifyQueue = []) : (s.loaded n t f m).passBegun n [] =
    { s with clips := s.clips.set n { (s.clip n).load f.base f.cells f.crc m t with state := .verifying } } := by
  simp only [State.passBegun, State.loaded, State.mapClip, Vector.set_set, Fin.getElem_fin, Vector.getElem_set_self, ← empty]
  rfl

end

end Sys2Proof.Machine

namespace Sys2Proof.Certificates.Slice0
open Sys2Proof.Machine

theorem exec_clipLoad_inHand {s : State} {seq slot : Nat} {f : ClipLoadFields} (h : s.inHand (.clipLoad seq slot f)) :
    exec (.clipLoad seq slot f) s = .next (s.taken.clipLoad ⟨seq, slot⟩ f) :=
  congrArg Host.Outcome.next (State.takeDirective_of _ h)

/-- Settles O29. -/
theorem clipLoadIsTestedAndQueued : Obligations.ClipLoadIsTestedAndQueued := by
  intro s seq slot f inHand
  have run := exec_clipLoad_inHand inHand
  refine ⟨fun h => run.trans (congrArg Host.Outcome.next (dif_neg (by omega))), ?_⟩
  intro n m is map inUse outOfRange
  have area : s.taken.clipArea = m.clipArea := by
    simp only [State.clipArea, show s.taken.map = some m from map]
  have range : outOfRange ↔ loadOutOfRange f s.taken.clipArea := by
    rw [area]
    exact Iff.rfl
  have unused (h : ¬ inUse) : (s.taken.clip n).guarded ≠ true := fun guarded => h ((Clip.guarded_iff _).1 guarded)
  have refused {r : DirectiveResult} (test : s.taken.clipLoadTest n f = .error r) :
      exec (.clipLoad seq slot f) s = .next (s.taken.respond seq 2 r 0 slot) :=
    run.trans (congrArg Host.Outcome.next (State.clipLoad_refused (s := s.taken) (t := ⟨seq, slot⟩) is test))
  refine ⟨fun used => refused (State.clipLoadTest_guarded ((Clip.guarded_iff _).2 used)),
    fun free bad => refused (State.clipLoadTest_range (unused free) (range.1 bad)), fun roles free good spelt => ?_⟩
  have test := State.clipLoadTest_lawful (unused free) (fun h => good (range.2 h)) spelt
  refine ⟨fun overlap => refused (test.trans (if_pos ((State.clipOverlap_iff ..).2 overlap))), ?_⟩
  intro apart loaded
  have accepted := State.clipLoad_accepted (t := ⟨seq, slot⟩) is (test.trans (if_neg fun h => by
    obtain ⟨k, ne, used, b, has, inside⟩ := (State.clipOverlap_iff ..).1 h
    exact apart k ne used b has inside))
  have idle : (s.taken.clip n).state ≠ .verifying := fun v => free (.inr (.inl v))
  rw [run, accepted, State.acceptLoad_eq]
  refine ⟨fun ⟨k, v⟩ => ?_, fun none_ empty => ?_⟩
  · exact congrArg Host.Outcome.next (State.beginPass_busy ((State.loaded_verifying idle k).2 v))
  have begin_ : (s.taken.loaded n ⟨seq, slot⟩ f roles).beginPass = _ :=
    State.beginPass_head (by rw [State.loaded, show s.taken.verifyQueue = [] from empty]; rfl)
      fun k v => none_ k ((State.loaded_verifying idle k).1 v)
  rw [begin_, State.loaded_passBegun (s := s.taken) _ empty]
  refine ⟨fun quiet => congrArg Host.Outcome.next ((State.requestVerify_asks ?_ n).trans ?_),
    fun ⟨x, mem, k, owner⟩ => congrArg Host.Outcome.next (State.requestVerify_waits ?_ n)⟩
  · rw [← Bool.not_eq_true, Bus.verifying_iff]
    rintro ⟨x, mem, k, owner⟩
    exact quiet x mem k owner
  · simp only [State.verifyAsked, State.clip, Fin.getElem_fin, Vector.getElem_set_self]
    rfl
  · exact (Bus.verifying_iff _).2 ⟨x, mem, k, owner⟩

end Sys2Proof.Certificates.Slice0

namespace Sys2Proof.Machine

/-! ## The verification pass (R67 to R73) -/

/-- R67: the record of clip `k` is `y`, and the read of the cell at its cursor is asked for. -/
def State.asksRead (u : State) (k : Fin 64) (y : Clip) : State :=
  { u with
    clips := u.clips.set k y
    verifyRead := some u.bus.next
    bus := { u.bus with
      txns := u.bus.txns ++ [⟨u.bus.next, u.bus.next, 4, false, y.base + 192 * y.cursor, 192, [], [], .verify k, false⟩]
      next := u.bus.next + 1 } }

/-- R66: the head of the verify queue, if any, begins its pass. -/
def State.passFollows (s u : State) : State :=
  match s.verifyQueue with
  | [] => u
  | k :: more => ({ u with verifyQueue := more } : State).asksRead k { s.clip k with state := .verifying, cursor := 0 }

theorem Bus.verifying_eq_false_iff (b : Bus) : b.verifying = false ↔ b.txns.filter (fun x => x.owner.verifies) = [] := by
  rw [Bus.verifying, List.any_eq_false, List.filter_eq_nil_iff]

theorem State.OnlyAsks.quiet {s t : State} (h : s.OnlyAsks t) (quiet : s.bus.verifying = false) : t.bus.verifying = false := by
  rw [Bus.verifying_eq_false_iff] at quiet ⊢
  rw [h.bus.spec.1, quiet]

section
variable {s : State} {x : Txn} {n : Fin 64}

/-- R67: with the one outstanding read answered, none is outstanding. -/
theorem State.left_quiet (order : s.oneVerifies) (mem : x ∈ s.bus.txns) (owner : x.owner = .verify n) :
    (s.left x).bus.verifying = false := by
  obtain ⟨-, -, -, -, -, -, one, -⟩ := order
  have verifies : x.owner.verifies = true := (Owner.verifies_iff _).2 ⟨n, owner⟩
  obtain ⟨front, back, split⟩ := List.append_of_mem mem
  rw [split, List.filter_append, List.filter_cons_of_pos (by exact verifies), List.length_append, List.length_cons] at one
  have none_ (l : List Txn) (h : (l.filter fun x => x.owner.verifies).length = 0) :
      ∀ y ∈ l, y.owner.verifies ≠ true := by
    rw [List.length_eq_zero_iff, List.filter_eq_nil_iff] at h
    exact h
  rw [Bus.verifying_eq_false_iff, List.filter_eq_nil_iff]
  intro y memY
  obtain ⟨memY, ne⟩ := List.mem_filter.1 memY
  rw [split, List.mem_append, List.mem_cons] at memY
  rcases memY with front' | rfl | back'
  · exact none_ front (by omega) y front'
  · exact absurd rfl (of_decide_eq_true ne)
  · exact none_ back (by omega) y back'

theorem exec_verifyReadComplete (routed : s.bus.issuedTxn x.id = some x) (owner : x.owner = .verify n) (a : Answer) :
    exec (.verifyReadComplete x.id a) s = .next
      (if s.verifyRead = some x.id then ({ s.left x with verifyRead := none } : State).endPass n ((s.clip n).step a)
        else (s.left x).resumeVerify) := by
  refine congrArg Host.Outcome.next ((State.onResponse_self _ routed owner (by simp)).trans ?_)
  simp only [owner, State.completeTxn_eq_left]
  rfl

theorem State.verifying_of_one (order : s.oneVerifies) {k : Fin 64} (v : (s.clip k).state = .verifying) : s.verifying = some k := by
  obtain ⟨one, -⟩ := order
  cases found : s.verifying with
  | none => exact absurd v (s.verifying_eq_none_iff.1 found k)
  | some j => rw [one j k (State.state_of_verifying found) v]

theorem State.requestVerify_asksRead {u : State} (quiet : u.bus.verifying = false) {k : Fin 64} {y : Clip} (is : u.clip k = y) :
    u.requestVerify k = u.asksRead k y := by
  have same : u.clips.set k y = u.clips := by
    rw [← is]
    exact Vector.set_getElem_self ..
  rw [State.requestVerify_asks quiet, State.asksRead, same, ← is]
  rfl

/-- R66: at the end of the pass of clip `n` the head of the queue begins its own. -/
theorem State.beginPass_follows (order : s.oneVerifies) (v : (s.clip n).state = .verifying) {u : State} {z : Clip}
    (clips : u.clips = s.clips.set n z) (done : z.state ≠ .verifying) (queue : u.verifyQueue = s.verifyQueue)
    (quiet : u.bus.verifying = false) : u.beginPass = s.passFollows u := by
  obtain ⟨one, -, inQueue, -⟩ := order
  have other {j : Fin 64} (ne : j ≠ n) : u.clip j = s.clip j := by
    have : n.val ≠ j.val := fun e => ne (Fin.ext e.symm)
    simp [State.clip, clips, this]
  have idle (j : Fin 64) : (u.clip j).state ≠ .verifying := by
    by_cases e : j = n
    · subst e
      simpa [State.clip, clips] using done
    · rw [other e]
      exact fun w => e (one j n w v)
  unfold State.passFollows
  cases rest : s.verifyQueue with
  | nil => exact State.beginPass_empty (queue.trans rest)
  | cons k more =>
    have ne : k ≠ n := by
      rintro rfl
      have := (inQueue k).1 (rest ▸ List.mem_cons_self ..)
      rw [v] at this
      cases this
    have begun : (u.passBegun k more).clip k = { s.clip k with state := .verifying, cursor := 0 } := by
      rw [← other ne]
      exact State.clip_mapClip_self ..
    rw [State.beginPass_head (queue.trans rest) idle, State.requestVerify_asksRead (u := u.passBegun k more) quiet begun]
    simp only [State.asksRead, State.passBegun, State.mapClip, Vector.set_set]

/-- R73: the pass of clip `n` has ended, with the record `y`, the log record and the response. -/
def State.passEnded (s : State) (x : Txn) (n : Fin 64) (owed : Ticket) (y : Clip) (r : Record) (result : DirectiveResult)
    (detail : Nat) : State :=
  s.passFollows (({ ({ s.left x with verifyRead := none } : State).record r with
    clips := s.clips.set n { y with owed := none } } : State).respond owed.seq 2 result detail owed.slot)

/-- The clip as its pass fails. -/
def Clip.failed (y : Clip) (why : ClipFailure) : Clip :=
  { y with
    state := .failed
    failure := some why
    p0 := none
    period := none
    pMax := none
    duration := none
    firstPcr := none }

variable {owed : Ticket}

/-- R73: the response and the next pass, once the clip's record and the log record are made. -/
theorem State.beginPass_ended (order : s.oneVerifies) (mem : x ∈ s.bus.txns) (owner : x.owner = .verify n)
    (v : (s.clip n).state = .verifying) {y : Clip} (done : y.state ≠ .verifying) (r : Record) (result : DirectiveResult)
    (detail : Nat) : State.beginPass (State.respond { ({ s.left x with verifyRead := none } : State).record r with
      clips := s.clips.set n { y with owed := none } } owed.seq 2 result detail owed.slot) =
        s.passEnded x n owed y r result detail := by
  have quiet := State.left_quiet order mem owner
  have recorded := (State.record_onlyAsks { s.left x with verifyRead := none } r).quiet quiet
  refine State.beginPass_follows order v rfl done rfl ?_
  exact (State.respond_onlyAsks _ _ _ _ _ _).quiet
    (s := { ({ s.left x with verifyRead := none } : State).record r with clips := s.clips.set n { y with owed := none } }) recorded

theorem State.endPass_fail (order : s.oneVerifies) (mem : x ∈ s.bus.txns) (owner : x.owner = .verify n)
    (v : (s.clip n).state = .verifying) {y : Clip} (owes : y.owed = some owed) (why : ClipFailure) (second : Nat) :
    ({ s.left x with verifyRead := none } : State).endPass n (.fail y why second) =
      s.passEnded x n owed (y.failed why) ⟨.clipFailed, 255, why.code, n, y.cursor, second⟩ .failed why.code := by
  have done : (y.failed why).state ≠ .verifying := by
    intro h
    cases h
  refine Eq.trans ?_ (State.beginPass_ended order mem owner v done _ _ _)
  simp only [State.endPass, owes, State.answerLoad]
  rfl

theorem State.endPass_pass (order : s.oneVerifies) (mem : x ∈ s.bus.txns) (owner : x.owner = .verify n)
    (v : (s.clip n).state = .verifying) {y : Clip} (owes : y.owed = some owed) :
    ({ s.left x with verifyRead := none } : State).endPass n (.pass y) =
      s.passEnded x n owed { y with state := .ready, cursor := y.cursor + 1 }
        ⟨.clipReady, 255, 0, n, y.duration.getD 0, (y.p0.getD 0).toNat⟩ .done 0 := by
  have done : ({ y with state := .ready, cursor := y.cursor + 1 } : Clip).state ≠ .verifying := by
    intro h
    cases h
  refine Eq.trans ?_ (State.beginPass_ended order mem owner v done _ _ _)
  simp only [State.endPass, owes, State.answerLoad]
  rfl

theorem State.endPass_on (order : s.oneVerifies) (mem : x ∈ s.bus.txns) (owner : x.owner = .verify n) (y : Clip) :
    ({ s.left x with verifyRead := none } : State).endPass n (.on y) = (s.left x).asksRead n y := by
  have quiet := State.left_quiet order mem owner
  refine (State.requestVerify_asksRead (u := State.mapClip { s.left x with verifyRead := none } n fun _ => y) quiet
    (State.clip_mapClip_self ..)).trans ?_
  simp only [State.asksRead, State.mapClip, Vector.set_set]

end

/-! ## The examination of a cell (R68 to R71) -/

section
variable {x y : Clip} {cell : List Byte}

/-- The clip with the cell folded into its CRC (R68). -/
def Clip.folded (x : Clip) (cell : List Byte) : Clip :=
  { x with crc := crc32Fold x.crc ((cell.drop 4).take 188) }

/-- The clip with the cell folded, and the first PCR kept (R70). -/
def Clip.timed (x : Clip) (cell : List Byte) : Clip :=
  { x.folded cell with firstPcr := x.firstPcr.or (readPcr cell) }

/-- What a cell that does not end the pass makes of its clip. -/
def Clip.goesOn (x : Clip) (cell : List Byte) (y : Clip) : Prop :=
  (x.videoPid ≠ some (cellPid cell) ∧ y = x.folded cell) ∨
    (x.videoPid = some (cellPid cell) ∧ x.p0 = none ∧
      ∃ p, entryPts x.videoPid cell = some p ∧ y = { x.timed cell with p0 := some p, pMax := some p }) ∨
    (∃ first, x.videoPid = some (cellPid cell) ∧ x.p0 = some first ∧ readPts cell = none ∧ y = x.timed cell) ∨
    (∃ first p, x.videoPid = some (cellPid cell) ∧ x.p0 = some first ∧ readPts cell = some p ∧
      (p - first).toNat < 2 ^ 31 ∧ (x.period = none → 1 ≤ (p - first).toNat ∧ (p - first).toNat ≤ 9000) ∧
      y = { x.timed cell with
        period := x.period.or (some (p - first).toNat)
        pMax := if (x.pMax.getD first - first).toNat < (p - first).toNat then some p else x.pMax })

theorem Clip.goesOn.samePlace (h : x.goesOn cell y) : y.cursor = x.cursor ∧ y.cells = x.cells ∧ y.owed = x.owed := by
  rcases h with ⟨-, rfl⟩ | ⟨-, -, p, -, rfl⟩ | ⟨_, -, -, -, rfl⟩ | ⟨_, _, -, -, -, -, -, rfl⟩ <;> exact ⟨rfl, rfl, rfl⟩

theorem Clip.examine_other (good : wellFormed cell = true) (other : x.videoPid ≠ some (cellPid cell)) :
    x.examine cell = .on (x.folded cell) :=
  (if_neg (by simp [good])).trans (if_neg other)

theorem Clip.examine_video (good : wellFormed cell = true) (video : x.videoPid = some (cellPid cell)) : x.examine cell =
    match (x.folded cell).examineVideo cell with
    | .on y => .on (y.notePcr cell)
    | r => r :=
  (if_neg (by simp [good])).trans (if_pos video)

theorem Clip.examine_video_on (good : wellFormed cell = true) (video : x.videoPid = some (cellPid cell))
    (h : (x.folded cell).examineVideo cell = .on y) : x.examine cell = .on (y.notePcr cell) := by
  rw [Clip.examine_video good video, h]

theorem Clip.examine_video_fail (good : wellFormed cell = true) (video : x.videoPid = some (cellPid cell)) {why : ClipFailure}
    {second : Nat} (h : (x.folded cell).examineVideo cell = .fail y why second) : x.examine cell = .fail y why second := by
  rw [Clip.examine_video good video, h]

theorem Clip.examineVideo_first (none_ : x.p0 = none) {p : Pts} (entry : entryPts x.videoPid cell = some p) :
    x.examineVideo cell = .on { x with p0 := some p, pMax := some p } := by
  simp only [Clip.examineVideo, none_, entry]

theorem Clip.examineVideo_noEntry (none_ : x.p0 = none) (entry : entryPts x.videoPid cell = none) :
    x.examineVideo cell = .fail x .noEntry 0 := by
  simp only [Clip.examineVideo, none_, entry]

theorem Clip.examineVideo_untimed {first : Pts} (some_ : x.p0 = some first) (pts : readPts cell = none) : x.examineVideo cell = .on x := by
  simp only [Clip.examineVideo, some_, pts]

theorem Clip.examineVideo_later {first p : Pts} (some_ : x.p0 = some first) (pts : readPts cell = some p) :
    x.examineVideo cell = x.laterPts first p := by
  simp only [Clip.examineVideo, some_, pts]

/-- R69: a later PTS that fails its test, whatever the period kept with it. -/
theorem Clip.laterPts_fail {first p : Pts}
    (bad : 2 ^ 31 ≤ (p - first).toNat ∨ (x.period = none ∧ ((p - first).toNat = 0 ∨ 9000 < (p - first).toNat))) :
    ∃ period, x.laterPts first p = .fail { x with period := period } .timing (p - first).toNat := by
  unfold Clip.laterPts
  dsimp only [forward]
  split
  · exact ⟨x.period, rfl⟩
  · next near =>
    obtain ⟨none_, d⟩ := bad.resolve_left near
    exact ⟨_, if_pos (by simpa [none_] using d)⟩

theorem Clip.laterPts_on {first p : Pts} (near : (p - first).toNat < 2 ^ 31)
    (second : x.period = none → 1 ≤ (p - first).toNat ∧ (p - first).toNat ≤ 9000) : x.laterPts first p = .on { x with
      period := x.period.or (some (p - first).toNat)
      pMax := if (x.pMax.getD first - first).toNat < (p - first).toNat then some p else x.pMax } := by
  have good : (x.period.isNone && ((p - first).toNat == 0 || decide (9000 < (p - first).toNat))) = false := by
    cases known : x.period with
    | some _ => rfl
    | none =>
      obtain ⟨low, high⟩ := second known
      simp only [Option.isNone_none, Bool.true_and, Bool.or_eq_false_iff, beq_eq_false_iff_ne, decide_eq_false_iff_not]
      omega
  have near' : ¬ 2 ^ 31 ≤ (p - first).toNat := by omega
  unfold Clip.laterPts
  dsimp only [forward]
  rw [if_neg near', good]
  refine (if_neg (by decide)).trans (congrArg PassStep.on ?_)
  by_cases further : (x.pMax.getD first - first).toNat < (p - first).toNat
  · simp only [further, if_true]
  · simp only [further, if_false]

theorem Clip.examine_goesOn (good : wellFormed cell = true) (h : x.goesOn cell y) : x.examine cell = .on y := by
  rcases h with ⟨other, rfl⟩ | ⟨video, none_, p, entry, rfl⟩ | ⟨first, video, some_, pts, rfl⟩ |
    ⟨first, p, video, some_, pts, near, second, rfl⟩
  · exact Clip.examine_other good other
  · exact Clip.examine_video_on good video (Clip.examineVideo_first (x := x.folded cell) none_ entry)
  · exact Clip.examine_video_on good video (Clip.examineVideo_untimed (x := x.folded cell) some_ pts)
  · exact Clip.examine_video_on good video ((Clip.examineVideo_later (x := x.folded cell) some_ pts).trans
      (Clip.laterPts_on (x := x.folded cell) near second))

theorem Clip.step_on {z : Clip} (h : x.examine cell = .on z) : x.step (.ok cell) =
    if z.cursor + 1 < z.cells then .on { z with cursor := z.cursor + 1 } else z.finalChecks := by
  simp only [Clip.step, h]

theorem Clip.step_fail {z : Clip} {why : ClipFailure} {second : Nat} (h : x.examine cell = .fail z why second) :
    x.step (.ok cell) = .fail z why second := by
  simp only [Clip.step, h]

theorem Clip.finalChecks_noEntry (h : x.p0 = none) : x.finalChecks = .fail x .noEntry 0 := by
  simp only [Clip.finalChecks, h]

theorem Clip.finalChecks_untimed {first : Pts} (some_ : x.p0 = some first) (h : x.period = none) :
    x.finalChecks = .fail x .timing 0 := by
  simp only [Clip.finalChecks, some_, h]

theorem Clip.finalChecks_timed {first : Pts} {period : Nat} (some_ : x.p0 = some first) (timed : x.period = some period) :
    x.finalChecks =
      if x.firstPcr.isNone then .fail x .noClock 0
      else if x.crc ≠ x.expectedCrc then .fail x .crcMismatch x.crc.toNat
      else .pass { x with duration := some ((x.pMax.getD first - first).toNat + period) } := by
  simp only [Clip.finalChecks, some_, timed, forward]

end

end Sys2Proof.Machine

namespace Sys2Proof.Certificates.Slice0
open Sys2Proof.Machine

/-- Settles O30. -/
theorem verificationReadsEndOrGoOn : Obligations.VerificationReadsEndOrGoOn := by
  intro s x n a routed owner order left asks
  have mem := (Bus.issuedTxn_spec routed).1
  have quiet := State.left_quiet order mem owner
  have run := exec_verifyReadComplete routed owner
  refine ⟨fun stale => ⟨fun idle => ?_, fun k v => ?_⟩, ?_⟩
  · have none_ : (s.left x).verifying = none := (State.verifying_eq_none_iff _).2 idle
    rw [run, if_neg stale, State.resumeVerify, none_]
    rfl
  · have some_ : (s.left x).verifying = some k := State.verifying_of_one (s := s) order v
    rw [run, if_neg stale, State.resumeVerify, some_]
    exact congrArg Host.Outcome.next (State.requestVerify_asksRead (u := s.left x) quiet rfl)
  intro owed awaited owes was follows ends fails video
  have v : (s.clip n).state = .verifying := by
    obtain ⟨-, -, -, -, own, -⟩ := order
    obtain ⟨m, owner', v⟩ := own x mem awaited
    cases owner.symm.trans owner'
    exact v
  have ended : exec (.verifyReadComplete x.id a) s = .next
      (({ s.left x with verifyRead := none } : State).endPass n ((s.clip n).step a)) := by
    rw [run, if_pos awaited]
  have fail {y : Clip} {why : ClipFailure} {code second : Nat} (step : (s.clip n).step a = .fail y why second) (owes : y.owed = some owed)
      (cursor : y.cursor = was.cursor) (isCode : why.code = code) : fails y why code second := by
    refine ended.trans (congrArg Host.Outcome.next ?_)
    subst isCode
    rw [step, State.endPass_fail order mem owner v owes]
    exact congrArg (fun k => s.passEnded x n owed (y.failed why) ⟨.clipFailed, 255, why.code, n, k, second⟩ .failed why.code) cursor
  refine ⟨?_, ?_⟩
  · rintro rfl
    exact fail rfl owes rfl rfl
  rintro cell rfl
  refine ⟨fun bad => fail (Clip.step_fail (if_pos (by simp [bad]))) owes rfl rfl, ?_⟩
  intro good folded timed
  refine ⟨fun isVideo none_ entry => ?_, fun first p isVideo some_ pts bad => ?_, fun y next => ?_⟩
  · refine fail (y := folded) (Clip.step_fail (Clip.examine_video_fail good isVideo ?_)) owes rfl rfl
    exact Clip.examineVideo_noEntry (x := was.folded cell) none_ entry
  · obtain ⟨period, failed⟩ := Clip.laterPts_fail (x := was.folded cell) bad
    refine fail (y := { folded with period := period }) (Clip.step_fail (Clip.examine_video_fail good isVideo ?_)) owes rfl rfl
    exact (Clip.examineVideo_later (x := was.folded cell) some_ pts).trans failed
  have examined := Clip.step_on (Clip.examine_goesOn (x := was) good next)
  obtain ⟨cursor, cells, owes'⟩ := Clip.goesOn.samePlace (x := was) next
  refine ⟨fun more => ?_, fun last => ?_⟩
  · refine ended.trans (congrArg Host.Outcome.next ?_)
    rw [examined.trans (if_pos (by rw [cursor, cells]; exact more)), State.endPass_on order mem owner]
    exact congrArg (fun k => (s.left x).asksRead n { y with cursor := k + 1 }) cursor
  have final : (s.clip n).step (.ok cell) = y.finalChecks := examined.trans (if_neg (by rw [cursor, cells]; exact Nat.not_lt.2 last))
  have owes := owes'.trans owes
  refine ⟨fun noEntry => fail (final.trans (Clip.finalChecks_noEntry noEntry)) owes cursor rfl, fun first some_ =>
    ⟨fun untimed => fail (final.trans (Clip.finalChecks_untimed some_ untimed)) owes cursor rfl, fun period timed => ?_⟩⟩
  have checks := final.trans (Clip.finalChecks_timed some_ timed)
  refine ⟨fun noClock => fail (checks.trans (if_pos (by rw [noClock]; rfl))) owes cursor rfl, fun clock => ?_⟩
  have clocked : ¬ y.firstPcr.isNone = true := fun none_ => clock (Option.isNone_iff_eq_none.1 none_)
  refine ⟨fun mismatch => fail (checks.trans ((if_neg clocked).trans (if_pos mismatch))) owes cursor rfl, ?_⟩
  intro matches_ duration
  refine ended.trans (congrArg Host.Outcome.next ?_)
  rw [checks.trans ((if_neg clocked).trans (if_neg (not_not.2 matches_))),
    State.endPass_pass (y := { y with duration := some duration }) order mem owner v owes]
  have second : (y.p0.getD 0).toNat = first.toNat := by rw [some_, Option.getD_some]
  exact congrArg₂ (fun k p => s.passEnded x n owed { y with state := .ready, duration := some duration, cursor := k + 1 }
    ⟨.clipReady, 255, 0, n, duration, p⟩ .done 0) cursor second

end Sys2Proof.Certificates.Slice0

namespace Sys2Proof.Machine

/-! ## Records, one after another -/

theorem State.recordAll_append (s : State) (a b : List Record) : s.recordAll (a ++ b) = (s.recordAll a).recordAll b :=
  List.foldl_append

/-- Records look at no channel, window or clip. -/
theorem State.recordAll_stores (l : List Record) (s : State) (channels : Vector Channel 32) (windows : Vector (Option Window) 48)
    (clips : Vector Clip 64) : State.recordAll { s with channels := channels, windows := windows, clips := clips } l =
      { s.recordAll l with channels := channels, windows := windows, clips := clips } := by
  induction l generalizing s with
  | nil => rfl
  | cons r l ih => exact ih (s.record r)

/-- Records leave everything but the log and the bus as it was. -/
theorem State.recordAll_eq (l : List Record) (s : State) :
    s.recordAll l = { s with log := (s.recordAll l).log, bus := (s.recordAll l).bus } := by
  induction l generalizing s with
  | nil => rfl
  | cons r l ih => exact ih (s.record r)

/-- The same state with other channels, windows and clips. -/
def State.stores (s : State) (channels : Vector Channel 32) (windows : Vector (Option Window) 48) (clips : Vector Clip 64) : State :=
  { s with channels := channels, windows := windows, clips := clips }

/-! ## A channel moves into or out of ALERT (R129, R131, R159, R163) -/

section
variable (u : State) (c : Fin 32)

/-- The window records as the channel leaves ALERT (R131). -/
def State.resumedWindows : Vector (Option Window) 48 :=
  match (u.chan c).window with
  | none => u.windows
  | some id => u.windows.set id ((u.window id).map fun w => { w with state := .active })

/-- The window records as the channel is taken into ALERT (R129). -/
def State.suspendedWindows : Vector (Option Window) 48 :=
  match (u.chan c).state, (u.chan c).window with
  | .subst, some id => u.windows.set id ((u.window id).map fun w => { w with state := .suspended })
  | _, _ => u.windows

/-- The clip records as the channel is taken into ALERT (R77). -/
def State.releasedClips : Vector Clip 64 :=
  match (u.chan c).state, (u.chan c).source with
  | .insert, .clip n _ => u.clips.set n { u.clip n with plays := (u.clip n).plays - 1 }
  | _, _ => u.clips

theorem Channel.place_immediate (ch : Channel) (feed : Fin 6) (latest : Option (Stamp × Pts)) :
    ch.place feed latest .immediate = ch.cursorOn feed latest := by
  cases latest <;> rfl

theorem State.placeCursor_immediate (feed : Fin 6) :
    u.placeCursor c feed .immediate = u.mapChan c fun ch => ch.cursorOn feed (u.feed feed).latest := by
  simp only [State.placeCursor, Channel.place_immediate]

theorem State.windows_set_self (id : Fin 48) {x : Option Window} (h : u.window id = x) : u.windows.set id x = u.windows := by
  rw [← h]
  exact Vector.set_getElem_self ..

variable {u c}

/-- R131: a channel with no suspended window goes to RETURN_WAIT. -/
theorem State.leaveAlert_waits (h : u.currentWindow c = none) :
    u.leaveAlert c = (u.recordAll (u.leaveRecords c)).stores (u.channels.set c (u.leftAlert c)) (u.resumedWindows c) u.clips := by
  unfold State.leaveAlert State.leaveRecords State.leftAlert State.resumedWindows
  rw [h]
  cases known : (u.chan c).window with
  | none => rfl
  | some id =>
    have gone : u.window id = none := by simpa [State.currentWindow, known] using h
    simp only [gone, Option.map_none, u.windows_set_self id gone]
    rfl

/-- R131: the suspended window of a channel resumes. -/
theorem State.leaveAlert_resumes {id : Fin 48} {w : Window} (known : (u.chan c).window = some id) (record : u.window id = some w)
    (own : w.channel = c) :
    u.leaveAlert c = (u.recordAll (u.leaveRecords c)).stores (u.channels.set c (u.leftAlert c)) (u.resumedWindows c) u.clips := by
  subst own
  have current : u.currentWindow w.channel = some w := by simp [State.currentWindow, known, record]
  have shown : u.showWindow id w .immediate = u.stores
      (u.channels.set w.channel (u.leftAlert w.channel)) (u.resumedWindows w.channel) u.clips := by
    unfold State.showWindow State.leftAlert State.resumedWindows
    simp only [current, known, record, Option.map_some]
    rw [State.placeCursor_immediate, State.mapChan_mapChan]
    have keep : ({ u.chan w.channel with window := some id, state := .subst } : Channel) = { u.chan w.channel with state := .subst } := by
      rw [← known]
    simp only [State.mapChan, State.setWindow, State.stores, State.feed, Function.comp_def]
    rw [show u.channels[w.channel] = u.chan w.channel from rfl, keep]
  have leaves : u.leaveAlert w.channel = (u.showWindow id w .immediate).recordWindowStart w.channel id .resumed .resumedWaiting := by
    simp only [State.leaveAlert, known, record]
  have channel : (u.stores (u.channels.set w.channel (u.leftAlert w.channel)) (u.resumedWindows w.channel) u.clips).chan w.channel =
      u.leftAlert w.channel := by
    simp [State.chan, State.stores]
  have left : u.leftAlert w.channel =
      ({ u.chan w.channel with state := .subst } : Channel).cursorOn (localFeed w.feed) (u.feed (localFeed w.feed)).latest := by
    simp only [State.leftAlert, current]
  rw [leaves, shown, State.recordWindowStart, channel]
  cases latest : (u.feed (localFeed w.feed)).latest with
  | none =>
    have records : u.leaveRecords w.channel =
        [⟨.windowStart, w.channel, 4, id, ((u.chan w.channel).netPts.getD 0).toNat, 0⟩] := by
      simp only [State.leaveRecords, known, current, latest]
    rw [records, left, latest]
    rfl
  | some e =>
    have records : u.leaveRecords w.channel = [⟨.windowStart, w.channel, 3, id, ((u.chan w.channel).netPts.getD 0).toNat,
        ((u.chan w.channel).outPts.getD e.2 - e.2).toNat⟩] := by
      simp only [State.leaveRecords, known, current, latest]
    rw [records, left, latest]
    rfl

/-- The clip that plays, if any, is left (R77, R114). -/
def State.clipLeft (u : State) (c : Fin 32) (code : Nat) : List Record × Vector Clip 64 :=
  match (u.chan c).source with
  | .clip n i => ([⟨.clipEnd, c, code, n, i, (u.clip n).cells⟩], u.clips.set n { u.clip n with plays := (u.clip n).plays - 1 })
  | _ => ([], u.clips)

/-- The avail that plays, if any, is over (R111, R114). -/
def State.availLeft (u : State) (c : Fin 32) (code : Nat) : List Record :=
  match (u.chan c).avail with
  | some a => [a.over c code ((u.chan c).outPts.getD 0)]
  | none => []

theorem State.leaveClip_eq (u : State) (c : Fin 32) (why : ClipEndReason) : u.leaveClip c why =
    (u.recordAll (u.clipLeft c why.code).1).stores u.channels u.windows (u.clipLeft c why.code).2 := by
  unfold State.leaveClip State.clipLeft
  cases (u.chan c).source <;> rfl

theorem State.endAvail_eq (u : State) (c : Fin 32) (why : AvailEndReason) : u.endAvail c why (u.chan c).endPoint =
    (u.recordAll (u.availLeft c why.code)).stores (u.channels.set c (u.chan c).availOver) u.windows u.clips := by
  unfold State.endAvail State.availLeft Channel.availOver
  cases (u.chan c).avail with
  | none =>
    rw [show u.channels.set c (u.chan c) = u.channels from Vector.set_getElem_self ..]
    rfl
  | some a => rfl

/-- R115: the clip is left, and then the avail is over. -/
theorem State.abandon_eq (u : State) (c : Fin 32) (clipWhy : ClipEndReason) (why : AvailEndReason) : u.abandon c clipWhy why =
    (u.recordAll ((u.clipLeft c clipWhy.code).1 ++ u.availLeft c why.code)).stores
      (u.channels.set c (u.chan c).availOver) u.windows (u.clipLeft c clipWhy.code).2 := by
  rw [State.abandon, State.leaveClip_eq, State.recordAll_append]
  refine (State.endAvail_eq ..).trans ?_
  simp only [State.stores, State.recordAll_stores]
  congr 1

theorem State.cutRecords_insert {u : State} {c : Fin 32} (h : (u.chan c).state = .insert) (code : Nat) :
    u.cutRecords c code = (u.clipLeft c 2).1 ++ u.availLeft c code := by
  refine (if_pos h).trans ?_
  unfold State.clipLeft State.availLeft
  cases (u.chan c).source <;> rfl

theorem State.releasedClips_insert {u : State} {c : Fin 32} (h : (u.chan c).state = .insert) :
    u.releasedClips c = (u.clipLeft c 2).2 := by
  unfold State.clipLeft State.releasedClips
  rw [h]
  cases (u.chan c).source <;> rfl

theorem State.releasedClips_other {u : State} {c : Fin 32} (h : (u.chan c).state ≠ .insert) : u.releasedClips c = u.clips := by
  unfold State.releasedClips
  cases state : (u.chan c).state with
  | insert => exact absurd state h
  | off | network | subst | alert | returnWait => rfl

theorem State.suspendedWindows_subst {u : State} {c : Fin 32} (h : (u.chan c).state = .subst) : u.suspendedWindows c =
    ((u.chan c).window.elim u.windows fun id => u.windows.set id ((u.window id).map fun w => { w with state := .suspended })) := by
  unfold State.suspendedWindows
  rw [h]
  cases (u.chan c).window <;> rfl

theorem State.suspendedWindows_other {u : State} {c : Fin 32} (h : (u.chan c).state ≠ .subst) : u.suspendedWindows c = u.windows := by
  unfold State.suspendedWindows
  cases state : (u.chan c).state with
  | subst => exact absurd state h
  | off | network | insert | alert | returnWait => rfl

theorem State.suspendWindow_eq {u : State} {c : Fin 32} (h : (u.chan c).state = .subst) :
    u.suspendWindow c = u.stores u.channels (u.suspendedWindows c) u.clips := by
  rw [State.suspendedWindows_subst h]
  unfold State.suspendWindow
  cases (u.chan c).window with
  | none => rfl
  | some id =>
    cases record : u.window id with
    | none =>
      simp only [Option.elim_some, record, Option.map_none, u.windows_set_self id record]
      rfl
    | some w =>
      simp only [Option.elim_some, record, Option.map_some]
      rfl

/-- The channel before it enters ALERT (R159, step 3). -/
def Channel.beforeAlert (ch : Channel) : Channel :=
  if ch.state = .insert then ch.availOver else ch

theorem State.beforeAlert_eq (u : State) (c : Fin 32) : u.beforeAlert c =
    (u.recordAll (u.enterRecords c)).stores (u.channels.set c (u.chan c).beforeAlert) (u.suspendedWindows c) (u.releasedClips c) := by
  have same : u.channels.set c (u.chan c) = u.channels := Vector.set_getElem_self ..
  by_cases insert : (u.chan c).state = .insert
  · have notSubst : (u.chan c).state ≠ .subst := by
      rw [insert]
      decide
    have abandons : u.beforeAlert c = u.abandon c .cut .alert := by simp only [State.beforeAlert, insert]
    rw [abandons, State.abandon_eq, State.suspendedWindows_other notSubst, State.releasedClips_insert insert, State.enterRecords,
      State.cutRecords_insert insert, Channel.beforeAlert, if_pos insert]
    rfl
  · have records : u.enterRecords c = [] := if_neg insert
    rw [State.releasedClips_other insert, records, Channel.beforeAlert, if_neg insert, same]
    by_cases subst : (u.chan c).state = .subst
    · have suspends : u.beforeAlert c = u.suspendWindow c := by simp only [State.beforeAlert, subst]
      rw [suspends, State.suspendWindow_eq subst]
      rfl
    · have stays : u.beforeAlert c = u := by
        unfold State.beforeAlert
        cases state : (u.chan c).state with
        | insert => exact absurd state insert
        | subst => exact absurd state subst
        | off | network | alert | returnWait => rfl
      rw [stays, State.suspendedWindows_other subst]
      rfl

/-- R159: a channel is taken into ALERT. -/
theorem State.takeIntoAlert_eq (u : State) (c : Fin 32) (feed : Fin 2) : u.takeIntoAlert c feed =
    (u.recordAll (u.enterRecords c)).stores (u.channels.set c (u.enteredAlert feed c)) (u.suspendedWindows c) (u.releasedClips c) := by
  have feeds : (u.recordAll (u.enterRecords c)).feeds = u.feeds := by rw [State.recordAll_eq]
  rw [State.takeIntoAlert, State.beforeAlert_eq]
  rw [State.placeCursor_immediate, State.mapChan_mapChan]
  simp only [State.mapChan, State.stores, State.feed, feeds, Function.comp_def, Fin.getElem_fin, Vector.getElem_set_self, Vector.set_set]
  rfl

end

end Sys2Proof.Machine

namespace Sys2Proof.Machine

/-! ## All channels move (R159, R162, R163) -/

theorem State.feeds_recordAll (l : List Record) (s : State) : (s.recordAll l).feeds = s.feeds := by
  rw [State.recordAll_eq]

theorem State.stores_feeds (s : State) (channels : Vector Channel 32) (windows : Vector (Option Window) 48) (clips : Vector Clip 64) :
    (s.stores channels windows clips).feeds = s.feeds := rfl

/-- One channel as the target set `old` on `oldFeed` gives way to `new` on `newFeed`. -/
def State.moveChannel (old new : ChannelMask) (oldFeed newFeed : Fin 2) (s : State) (c : Fin 32) : State :=
  if s.leaves old new c then s.leaveAlert c
  else if s.enters old new c then s.takeIntoAlert c newFeed
  else if s.changesFeed old new oldFeed newFeed c then s.placeCursor c (alertFeed newFeed) .immediate
  else s

section
variable (s : State) (old new : ChannelMask) (oldFeed newFeed : Fin 2)

/-- The records of a channel's move. -/
def State.moveRecords (c : Fin 32) : List Record :=
  if s.leaves old new c then s.leaveRecords c else if s.enters old new c then s.enterRecords c else []

/-- A window record, once the channels of the list have moved. -/
def State.windowAfter (l : List (Fin 32)) (id : Fin 48) (w : Window) : Window :=
  if l.any fun c => s.leaves old new c && (s.chan c).window == some id then { w with state := .active }
  else if l.any fun c => s.enters old new c && (s.chan c).state == .subst && (s.chan c).window == some id then
    { w with state := .suspended }
  else w

/-- A clip record, once the channels of the list have moved. -/
def State.clipAfter (l : List (Fin 32)) (n : Fin 64) : Clip :=
  { s.clip n with plays := (s.clip n).plays - (l.filter fun c => s.enters old new c && (s.chan c).playsClip n).length }

/-- The state, once the channels of the list have moved. -/
def State.movedBy (l : List (Fin 32)) : State :=
  (s.recordAll (l.flatMap (s.moveRecords old new))).stores
    (Vector.ofFn fun c => if c ∈ l then s.movedChannel old new oldFeed newFeed c else s.chan c)
    (Vector.ofFn fun id => (s.window id).map (s.windowAfter old new l id))
    (Vector.ofFn (s.clipAfter old new l))

theorem State.movedBy_nil : s.movedBy old new oldFeed newFeed [] = s := by
  have channels : (Vector.ofFn fun c => s.chan c) = s.channels := by
    apply Vector.ext
    intro i lt
    simp [State.chan]
  have windows : (Vector.ofFn fun id => (s.window id).map (s.windowAfter old new [] id)) = s.windows := by
    apply Vector.ext
    intro i lt
    have same (id : Fin 48) : s.windowAfter old new [] id = fun w => w := rfl
    simp [State.window, same]
  have clips : Vector.ofFn (s.clipAfter old new []) = s.clips := by
    apply Vector.ext
    intro i lt
    simp [State.clip, State.clipAfter]
  unfold State.movedBy
  simp only [List.not_mem_nil, if_false, channels, windows, clips]
  rfl

theorem State.movedBy_finRange : s.movedBy old new oldFeed newFeed (List.finRange 32) = s.alertMoves old new oldFeed newFeed := by
  simp only [State.movedBy, List.mem_finRange, if_true]
  rfl

/-- No window of a channel that leaves ALERT is another channel's. -/
def State.windowsOwn : Prop :=
  (∀ c id w, s.leaves old new c = true → (s.chan c).window = some id → s.window id = some w → w.channel = c) ∧
    ∀ c d id, s.leaves old new c = true → (s.chan c).window = some id → (s.chan d).window = some id → d = c

theorem State.windowsOwn_of_listed (h : s.windowsListed) : s.windowsOwn old new := by
  have owner {c : Fin 32} {id : Fin 48} (current : (s.chan c).window = some id) : ∃ w, s.window id = some w ∧ w.channel = c := by
    obtain ⟨-, listed, isListed⟩ := h c
    exact (listed id).1 (isListed id current)
  refine ⟨fun c id w _ current record => ?_, fun c d id _ current current' => ?_⟩
  · obtain ⟨w', record', own⟩ := owner current
    cases record.symm.trans record'
    exact own
  · obtain ⟨w, record, own⟩ := owner current
    obtain ⟨w', record', own'⟩ := owner current'
    cases record.symm.trans record'
    exact own'.symm.trans own

theorem State.windowsOwn_zero : s.windowsOwn 0 new := by
  have none_ (c : Fin 32) : s.leaves 0 new c = false := by simp [State.leaves]
  constructor
  · intro c id w leaves
    rw [none_] at leaves
    cases leaves
  · intro c d id leaves
    rw [none_] at leaves
    cases leaves

variable {s old new oldFeed newFeed} {l : List (Fin 32)} {c : Fin 32}

theorem State.movedBy_chan (fresh : c ∉ l) : (s.movedBy old new oldFeed newFeed l).chan c = s.chan c := by
  simp [State.movedBy, State.stores, State.chan, fresh]

theorem State.movedBy_window (id : Fin 48) :
    (s.movedBy old new oldFeed newFeed l).window id = (s.window id).map (s.windowAfter old new l id) := by
  simp [State.movedBy, State.stores, State.window]

theorem State.movedBy_clip (n : Fin 64) : (s.movedBy old new oldFeed newFeed l).clip n = s.clipAfter old new l n := by
  simp [State.movedBy, State.stores, State.clip]

theorem State.movedBy_feed (f : Fin 6) : (s.movedBy old new oldFeed newFeed l).feed f = s.feed f := by
  have feeds : (s.movedBy old new oldFeed newFeed l).feeds = s.feeds := by
    rw [State.movedBy, State.stores_feeds, State.feeds_recordAll]
  simp only [State.feed, feeds]

/-- The next channel moves: what must hold of its records, channel, windows and clips. -/
theorem State.movedBy_snoc {u : State} (isU : u = s.movedBy old new oldFeed newFeed l) {r : List Record} {ch : Channel}
    {windows : Vector (Option Window) 48} {clips : Vector Clip 64} (records : r = s.moveRecords old new c)
    (channel : ch = s.movedChannel old new oldFeed newFeed c)
    (windows_ : ∀ id, windows[id] = (s.window id).map (s.windowAfter old new (l ++ [c]) id))
    (clips_ : ∀ n, clips[n] = s.clipAfter old new (l ++ [c]) n) :
    (u.recordAll r).stores (u.channels.set c ch) windows clips = s.movedBy old new oldFeed newFeed (l ++ [c]) := by
  subst isU records channel
  have windowsEq : windows = Vector.ofFn fun id => (s.window id).map (s.windowAfter old new (l ++ [c]) id) := by
    apply Vector.ext
    intro i lt
    rw [Vector.getElem_ofFn]
    exact windows_ ⟨i, lt⟩
  have clipsEq : clips = Vector.ofFn (s.clipAfter old new (l ++ [c])) := by
    apply Vector.ext
    intro i lt
    rw [Vector.getElem_ofFn]
    exact clips_ ⟨i, lt⟩
  have channelsEq : (Vector.ofFn fun d => if d ∈ l then s.movedChannel old new oldFeed newFeed d else s.chan d).set c
      (s.movedChannel old new oldFeed newFeed c) =
        Vector.ofFn fun d => if d ∈ l ++ [c] then s.movedChannel old new oldFeed newFeed d else s.chan d := by
    apply Vector.ext
    intro i lt
    rw [Vector.getElem_set, Vector.getElem_ofFn, Vector.getElem_ofFn]
    by_cases e : c.val = i
    · subst e
      simp
    · have ne : (⟨i, lt⟩ : Fin 32) ≠ c := fun h => e (congrArg Fin.val h).symm
      simp [e, ne]
  rw [windowsEq, clipsEq]
  simp only [State.movedBy, State.stores, State.recordAll_stores, channelsEq, List.flatMap_append, List.flatMap_singleton,
    State.recordAll_append]

theorem State.windowAfter_state (l : List (Fin 32)) (id : Fin 48) (w : Window) :
    ∃ st, s.windowAfter old new l id w = { w with state := st } := by
  unfold State.windowAfter
  split
  · exact ⟨_, rfl⟩
  · split
    · exact ⟨_, rfl⟩
    · exact ⟨w.state, rfl⟩

/-- The window of another channel, or of none, is as it was before this channel moved. -/
theorem State.windowAfter_other {id : Fin 48} (leaves : (s.leaves old new c && (s.chan c).window == some id) = false)
    (enters : (s.enters old new c && (s.chan c).state == .subst && (s.chan c).window == some id) = false) :
    s.windowAfter old new (l ++ [c]) id = s.windowAfter old new l id := by
  funext w
  simp only [State.windowAfter, List.any_append, List.any_cons, List.any_nil, leaves, enters, Bool.or_false]

theorem State.windowAfter_leaves {id : Fin 48} (leaves : s.leaves old new c = true) (current : (s.chan c).window = some id)
    (w : Window) : s.windowAfter old new (l ++ [c]) id w = { w with state := .active } := by
  refine if_pos ?_
  simp [leaves, current]

theorem State.windowAfter_enters {id : Fin 48} (others : ∀ d ∈ l, s.leaves old new d = true → (s.chan d).window ≠ some id)
    (stays : s.leaves old new c = false) (enters : s.enters old new c = true) (subst : (s.chan c).state = .subst)
    (current : (s.chan c).window = some id) (w : Window) :
    s.windowAfter old new (l ++ [c]) id w = { w with state := .suspended } := by
  refine (if_neg ?_).trans (if_pos ?_)
  · simp only [List.any_append, List.any_cons, List.any_nil, stays, Bool.false_and, Bool.or_false, List.any_eq_true, Bool.and_eq_true,
      beq_iff_eq]
    rintro ⟨d, mem, leaves, window⟩
    exact others d mem leaves window
  · simp [enters, subst, current]

/-- A clip that this channel does not stop playing is as it was before the channel moved. -/
theorem State.clipAfter_other {n : Fin 64} (h : (s.enters old new c && (s.chan c).playsClip n) = false) :
    s.clipAfter old new (l ++ [c]) n = s.clipAfter old new l n := by
  have none_ : [c].filter (fun c => s.enters old new c && (s.chan c).playsClip n) = [] := List.filter_cons_of_neg (by simp [h])
  simp only [State.clipAfter, List.filter_append, none_, List.append_nil]

theorem State.clipAfter_released {n : Fin 64} (enters : s.enters old new c = true) (plays : (s.chan c).playsClip n = true) :
    s.clipAfter old new (l ++ [c]) n =
      { s.clipAfter old new l n with plays := (s.clipAfter old new l n).plays - 1 } := by
  have one : [c].filter (fun c => s.enters old new c && (s.chan c).playsClip n) = [c] := List.filter_cons_of_pos (by simp [enters, plays])
  simp only [State.clipAfter, List.filter_append, one, List.length_append, List.length_singleton, Nat.sub_sub]

/-! ### What a move looks at -/

variable {u : State}

theorem State.leaves_congr (chan : u.chan c = s.chan c) : u.leaves old new c = s.leaves old new c := by
  simp only [State.leaves, chan]

theorem State.enters_congr (chan : u.chan c = s.chan c) : u.enters old new c = s.enters old new c := by
  simp only [State.enters, chan]

theorem State.changesFeed_congr (chan : u.chan c = s.chan c) :
    u.changesFeed old new oldFeed newFeed c = s.changesFeed old new oldFeed newFeed c := by
  simp only [State.changesFeed, chan]

theorem State.leaveRecords_congr (chan : u.chan c = s.chan c) (feed : ∀ f, u.feed f = s.feed f)
    (window : (u.currentWindow c).map Window.feed = (s.currentWindow c).map Window.feed) : u.leaveRecords c = s.leaveRecords c := by
  unfold State.leaveRecords
  rw [chan]
  cases (s.chan c).window with
  | none => rfl
  | some id =>
    cases before : s.currentWindow c with
    | none =>
      rw [before, Option.map_none, Option.map_eq_none_iff] at window
      rw [window]
    | some w =>
      rw [before, Option.map_some, Option.map_eq_some_iff] at window
      obtain ⟨w', after, same⟩ := window
      rw [after]
      simp only [feed, same]

theorem State.leftAlert_congr (chan : u.chan c = s.chan c) (feed : ∀ f, u.feed f = s.feed f)
    (window : (u.currentWindow c).map Window.feed = (s.currentWindow c).map Window.feed) : u.leftAlert c = s.leftAlert c := by
  unfold State.leftAlert
  rw [chan]
  cases before : s.currentWindow c with
  | none =>
    rw [before, Option.map_none, Option.map_eq_none_iff] at window
    rw [window]
  | some w =>
    rw [before, Option.map_some, Option.map_eq_some_iff] at window
    obtain ⟨w', after, same⟩ := window
    rw [after]
    simp only [feed, same]

theorem State.cutRecords_congr (chan : u.chan c = s.chan c) (cells : ∀ n, (u.clip n).cells = (s.clip n).cells) (code : Nat) :
    u.cutRecords c code = s.cutRecords c code := by
  unfold State.cutRecords
  rw [chan]
  simp only [cells]

theorem State.enteredAlert_congr (chan : u.chan c = s.chan c) (feed : ∀ f, u.feed f = s.feed f) :
    u.enteredAlert newFeed c = s.enteredAlert newFeed c := by
  simp only [State.enteredAlert, chan, feed]

theorem State.movedBy_currentWindow (fresh : c ∉ l) :
    ((s.movedBy old new oldFeed newFeed l).currentWindow c).map Window.feed = (s.currentWindow c).map Window.feed := by
  unfold State.currentWindow
  rw [State.movedBy_chan fresh]
  cases (s.chan c).window with
  | none => simp only [Option.bind_none]
  | some id =>
    simp only [Option.bind_some, State.movedBy_window, Option.map_map]
    refine congrFun (congrArg Option.map (funext fun w => ?_)) _
    obtain ⟨st, e⟩ := s.windowAfter_state (old := old) (new := new) l id w
    rw [Function.comp_apply, e]

end

end Sys2Proof.Machine

namespace Sys2Proof.Machine

section
variable {s : State} {old new : ChannelMask} {oldFeed newFeed : Fin 2} {l : List (Fin 32)} {c : Fin 32}

theorem State.leaveAlert_eq {u : State} (own : ∀ id w, (u.chan c).window = some id → u.window id = some w → w.channel = c) :
    u.leaveAlert c = (u.recordAll (u.leaveRecords c)).stores (u.channels.set c (u.leftAlert c)) (u.resumedWindows c) u.clips := by
  cases current : u.currentWindow c with
  | none => exact State.leaveAlert_waits current
  | some w =>
    obtain ⟨id, known, record⟩ := Option.bind_eq_some_iff.1 current
    exact State.leaveAlert_resumes known record (own id w known record)

/-- A channel put back as it was. -/
theorem State.mapChan_self (u : State) (c : Fin 32) : (u.mapChan c fun _ => u.channels[c]) = u := by
  rw [State.mapChan, show u.channels.set c u.channels[c] = u.channels from Vector.set_getElem_self ..]

theorem State.chan_eq (u : State) (c : Fin 32) : u.chan c = u.channels[c] := rfl

/-- The window records as a channel leaves ALERT, one by one. -/
theorem State.resumedWindows_get (u : State) (id : Fin 48) : (u.resumedWindows c)[id] =
    if (u.chan c).window = some id then (u.window id).map fun w => { w with state := .active } else u.window id := by
  unfold State.resumedWindows
  cases (u.chan c).window with
  | none => rfl
  | some k =>
    by_cases e : k = id
    · subst e
      simp
    · have ne : k.val ≠ id.val := fun h => e (Fin.ext h)
      simp [e, ne, State.window]

/-- The window records as a channel is taken into ALERT, one by one. -/
theorem State.suspendedWindows_get (u : State) (id : Fin 48) : (u.suspendedWindows c)[id] =
    if (u.chan c).state = .subst ∧ (u.chan c).window = some id then (u.window id).map fun w => { w with state := .suspended }
    else u.window id := by
  by_cases subst : (u.chan c).state = .subst
  · rw [State.suspendedWindows_subst subst]
    cases (u.chan c).window with
    | none => simp [State.window]
    | some k =>
      by_cases e : k = id
      · subst e
        simp [subst]
      · have ne : k.val ≠ id.val := fun h => e (Fin.ext h)
        simp [e, ne, State.window]
  · rw [State.suspendedWindows_other subst, if_neg fun h => subst h.1]
    rfl

/-- The clip records as a channel is taken into ALERT, one by one. -/
theorem State.releasedClips_get (u : State) (n : Fin 64) : (u.releasedClips c)[n] =
    if (u.chan c).playsClip n = true then { u.clip n with plays := (u.clip n).plays - 1 } else u.clip n := by
  by_cases insert : (u.chan c).state = .insert
  · rw [State.releasedClips_insert insert]
    unfold State.clipLeft Channel.playsClip
    cases (u.chan c).source with
    | clip k i =>
      by_cases e : k = n
      · subst e
        simp [insert]
      · have ne : k.val ≠ n.val := fun h => e (Fin.ext h)
        simp [e, ne, State.clip]
    | network | feed | none => simp [State.clip]
  · rw [State.releasedClips_other insert]
    have : (u.chan c).playsClip n = false := by simp [Channel.playsClip, insert]
    simp [this, State.clip]

/-- R131: a channel that leaves ALERT. -/
theorem State.leaveAlert_movedBy (own : s.windowsOwn old new) (fresh : c ∉ l) (leaves : s.leaves old new c = true) :
    (s.movedBy old new oldFeed newFeed l).leaveAlert c = s.movedBy old new oldFeed newFeed (l ++ [c]) := by
  have chan := State.movedBy_chan (s := s) (old := old) (new := new) (oldFeed := oldFeed) (newFeed := newFeed) fresh
  have window := State.movedBy_currentWindow (s := s) (old := old) (new := new) (oldFeed := oldFeed) (newFeed := newFeed) fresh
  have stays : s.enters old new c = false := by
    unfold State.leaves at leaves
    unfold State.enters
    cases old.getLsbD c <;> simp_all
  rw [State.leaveAlert_eq]
  · refine State.movedBy_snoc rfl ?_ ?_ (fun id => ?_) fun n => ?_
    · rw [State.leaveRecords_congr chan State.movedBy_feed window, State.moveRecords, if_pos leaves]
    · rw [State.leftAlert_congr chan State.movedBy_feed window, State.movedChannel, if_pos leaves]
    · rw [State.resumedWindows_get, chan, State.movedBy_window]
      split
      · next current =>
        rw [Option.map_map]
        refine congrFun (congrArg Option.map (funext fun w => ?_)) _
        obtain ⟨st, e⟩ := s.windowAfter_state (old := old) (new := new) l id w
        rw [State.windowAfter_leaves leaves current, Function.comp_apply, e]
      · next other => rw [State.windowAfter_other (by simp [other]) (by simp [stays])]
    · rw [State.clipAfter_other (by simp [stays])]
      exact State.movedBy_clip n
  · intro id w current record
    rw [chan] at current
    rw [State.movedBy_window, Option.map_eq_some_iff] at record
    obtain ⟨w', record, rfl⟩ := record
    obtain ⟨st, e⟩ := s.windowAfter_state (old := old) (new := new) l id w'
    rw [e]
    obtain ⟨owner, -⟩ := own
    exact owner c id w' leaves current record

/-- R159: a channel that is taken into ALERT. -/
theorem State.takeIntoAlert_movedBy (own : s.windowsOwn old new) (fresh : c ∉ l) (stays : s.leaves old new c = false)
    (enters : s.enters old new c = true) :
    (s.movedBy old new oldFeed newFeed l).takeIntoAlert c newFeed = s.movedBy old new oldFeed newFeed (l ++ [c]) := by
  have chan := State.movedBy_chan (s := s) (old := old) (new := new) (oldFeed := oldFeed) (newFeed := newFeed) fresh
  have notLeaves : ¬ s.leaves old new c = true := by simp [stays]
  rw [State.takeIntoAlert_eq]
  refine State.movedBy_snoc rfl ?_ ?_ (fun id => ?_) fun n => ?_
  · have cells (n : Fin 64) : ((s.movedBy old new oldFeed newFeed l).clip n).cells = (s.clip n).cells := by
      rw [State.movedBy_clip]
      rfl
    rw [State.moveRecords, if_neg notLeaves, if_pos enters]
    exact State.cutRecords_congr chan cells 8
  · rw [State.enteredAlert_congr chan State.movedBy_feed, State.movedChannel, if_neg notLeaves, if_pos enters]
  · rw [State.suspendedWindows_get, chan, State.movedBy_window]
    split
    · next current =>
      obtain ⟨subst, current⟩ := current
      rw [Option.map_map]
      refine congrFun (congrArg Option.map (funext fun w => ?_)) _
      obtain ⟨st, e⟩ := s.windowAfter_state (old := old) (new := new) l id w
      obtain ⟨-, apart⟩ := own
      rw [State.windowAfter_enters (fun d mem leaves window => fresh (apart d c id leaves window current ▸ mem)) stays enters subst current,
        Function.comp_apply, e]
    · next other =>
      rw [State.windowAfter_other (by simp [stays])]
      simp only [Bool.and_eq_false_iff, beq_eq_false_iff_ne]
      by_cases subst : (s.chan c).state = .subst
      · exact .inr fun current => other ⟨subst, current⟩
      · exact .inl (.inr subst)
  · rw [State.releasedClips_get, chan, State.movedBy_clip]
    split
    · next plays => rw [State.clipAfter_released enters plays]
    · next other => rw [State.clipAfter_other (by simp [other])]

/-- R163: a channel that stays where it is, but for its feed. -/
theorem State.cursorOn_movedBy {ch : Channel} (stays : s.leaves old new c = false) (out : s.enters old new c = false)
    (channel : ch = s.movedChannel old new oldFeed newFeed c) :
    ((s.movedBy old new oldFeed newFeed l).mapChan c fun _ => ch) = s.movedBy old new oldFeed newFeed (l ++ [c]) := by
  refine Eq.trans ?_ (State.movedBy_snoc (u := s.movedBy old new oldFeed newFeed l) (r := [])
    (windows := (s.movedBy old new oldFeed newFeed l).windows) (clips := (s.movedBy old new oldFeed newFeed l).clips)
    rfl ?_ channel (fun id => ?_) fun n => ?_)
  · rfl
  · rw [State.moveRecords, stays, out]
    rfl
  · rw [State.windowAfter_other (by simp [stays]) (by simp [out])]
    exact State.movedBy_window id
  · rw [State.clipAfter_other (by simp [out])]
    exact State.movedBy_clip n

theorem State.moveChannel_movedBy (own : s.windowsOwn old new) (fresh : c ∉ l) :
    State.moveChannel old new oldFeed newFeed (s.movedBy old new oldFeed newFeed l) c =
      s.movedBy old new oldFeed newFeed (l ++ [c]) := by
  have chan := State.movedBy_chan (s := s) (old := old) (new := new) (oldFeed := oldFeed) (newFeed := newFeed) fresh
  have self := (State.chan_eq (s.movedBy old new oldFeed newFeed l) c).symm.trans chan
  rw [State.moveChannel, State.leaves_congr chan, State.enters_congr chan, State.changesFeed_congr chan]
  by_cases leaves : s.leaves old new c = true
  · rw [if_pos leaves]
    exact State.leaveAlert_movedBy own fresh leaves
  rw [if_neg leaves]
  have stays := Bool.eq_false_iff.2 leaves
  by_cases enters : s.enters old new c = true
  · rw [if_pos enters]
    exact State.takeIntoAlert_movedBy own fresh stays enters
  rw [if_neg enters]
  have out := Bool.eq_false_iff.2 enters
  refine Eq.trans ?_ (State.cursorOn_movedBy stays out rfl)
  by_cases changes : s.changesFeed old new oldFeed newFeed c = true
  · rw [if_pos changes, State.placeCursor_immediate, State.movedChannel, if_neg leaves, if_neg enters, if_pos changes]
    simp only [State.mapChan, self, State.movedBy_feed]
  · rw [if_neg changes, State.movedChannel, if_neg leaves, if_neg enters, if_neg changes, ← self]
    exact (State.mapChan_self ..).symm

/-- Channel after channel, all move. -/
theorem State.foldl_moveChannel (own : s.windowsOwn old new) (l rest : List (Fin 32)) (nodup : (l ++ rest).Nodup) :
    rest.foldl (State.moveChannel old new oldFeed newFeed) (s.movedBy old new oldFeed newFeed l) =
      s.movedBy old new oldFeed newFeed (l ++ rest) := by
  induction rest generalizing l with
  | nil => rw [List.append_nil, List.foldl_nil]
  | cons c rest ih =>
    have fresh : c ∉ l := fun mem => (List.nodup_append.1 nodup).2.2 c mem c (List.mem_cons_self ..) rfl
    have split : l ++ c :: rest = (l ++ [c]) ++ rest := by simp
    rw [List.foldl_cons, State.moveChannel_movedBy own fresh, split]
    exact ih (l ++ [c]) (split ▸ nodup)

/-- All that becomes of the channels, the windows and the clips is what becomes of each channel in its turn. -/
theorem State.foldl_moveChannel_finRange (own : s.windowsOwn old new) (oldFeed newFeed : Fin 2) :
    (List.finRange 32).foldl (State.moveChannel old new oldFeed newFeed) s = s.alertMoves old new oldFeed newFeed := by
  have all := State.foldl_moveChannel (oldFeed := oldFeed) (newFeed := newFeed) own [] (List.finRange 32) (List.nodup_finRange 32)
  rwa [State.movedBy_nil, List.nil_append, State.movedBy_finRange] at all

end

end Sys2Proof.Machine

namespace Sys2Proof.Machine

/-! ## Target sets (R158) -/

theorem getLsbD_foldl_groups (a : AlertControl) (groupMask : BitVec 8) (l : List (Fin 8)) (m : ChannelMask) (c : Fin 32) :
    (l.foldl (fun m (g : Fin 8) => if groupMask.getLsbD g.val then m ||| a.groups[g] else m) m).getLsbD c = true ↔
      m.getLsbD c = true ∨ ∃ g ∈ l, groupMask.getLsbD g = true ∧ a.groups[g].getLsbD c = true := by
  induction l generalizing m with
  | nil => simp
  | cons g l ih =>
    rw [List.foldl_cons, ih]
    by_cases named : groupMask.getLsbD g = true
    · rw [if_pos named, BitVec.getLsbD_or, Bool.or_eq_true, or_assoc, List.exists_mem_cons_iff]
      exact or_congr_right (or_congr_left (and_iff_right named).symm)
    · rw [if_neg named, List.exists_mem_cons_iff]
      exact or_congr_right (or_iff_right fun h => named h.1).symm

theorem AlertControl.targetOf_of_unites {a : AlertControl} {groupMask : BitVec 8} {set : ChannelMask} (h : a.unites groupMask set) :
    a.targetOf groupMask = set := by
  refine BitVec.eq_of_getLsbD_eq fun i lt => ?_
  have all := getLsbD_foldl_groups a groupMask (List.finRange 8) 0 ⟨i, lt⟩
  have same := (h ⟨i, lt⟩).symm
  have empty : (0 : ChannelMask).getLsbD i = false := BitVec.getLsbD_zero
  simp only [empty, Bool.false_eq_true, false_or, List.mem_finRange, true_and] at all
  exact Bool.eq_iff_iff.2 (all.trans same)

/-! ## Activation, handover and end (R159, R162, R163) -/

theorem State.forEnabled_takeIntoAlert (s : State) (set : ChannelMask) (oldFeed feed : Fin 2) :
    (s.forEnabled set fun s c => s.takeIntoAlert c feed) = s.alertMoves 0 set oldFeed feed := by
  rw [← State.foldl_moveChannel_finRange (s.windowsOwn_zero set)]
  refine congrArg (fun f => (List.finRange 32).foldl f s) (funext₂ fun u c => ?_)
  have stays : u.leaves 0 set c = false := by simp [State.leaves]
  have same : u.changesFeed 0 set oldFeed feed c = false := by simp [State.changesFeed]
  have enters : u.enters 0 set c = ((u.chan c).enabled && maskHas set c) := by simp [State.enters, Channel.enabled, maskHas]
  simp only [State.moveChannel, stays, same, enters, Bool.false_eq_true, if_false]

theorem State.forEnabled_leaveAlert {s : State} {set : ChannelMask} (own : s.windowsOwn set 0) (oldFeed feed : Fin 2) :
    s.forEnabled set State.leaveAlert = s.alertMoves set 0 oldFeed feed := by
  rw [← State.foldl_moveChannel_finRange own]
  refine congrArg (fun f => (List.finRange 32).foldl f s) (funext₂ fun u c => ?_)
  have out : u.enters set 0 c = false := by simp [State.enters]
  have same : u.changesFeed set 0 oldFeed feed c = false := by simp [State.changesFeed]
  have leaves : u.leaves set 0 c = ((u.chan c).enabled && maskHas set c) := by simp [State.leaves, Channel.enabled, maskHas]
  simp only [State.moveChannel, out, same, leaves, Bool.false_eq_true, if_false]

theorem State.handoverChannel_eq (old new : AlertContext) (set : ChannelMask) :
    State.handoverChannel old new set = State.moveChannel (old.target.getD 0) set old.feed new.feed := by
  funext u c
  unfold State.handoverChannel State.moveChannel
  have enabled : ((u.chan c).state != .off) = (u.chan c).enabled := rfl
  simp only [State.leaves, State.enters, State.changesFeed, maskHas, enabled]
  cases (u.chan c).enabled
  · simp
  · cases (old.target.getD 0).getLsbD c <;> cases set.getLsbD c
    · simp
    · simp
    · simp
    · by_cases same : old.feed = new.feed <;> simp [same]

/-- The context once it is current. -/
def AlertContext.activeAt (x : AlertContext) (set : ChannelMask) (house : Nat) : AlertContext :=
  { x with state := .active, target := some set, activated := some house }

/-- The state with this alert current. -/
def State.withCurrent (s : State) (x : AlertContext) : State :=
  { s with alerts := { s.alerts with current := some x } }

theorem State.activate_eq {s : State} {x : AlertContext} {set : ChannelMask} (union : s.alerts.unites x.groupMask set) :
    s.activate x = (s.withCurrent (x.activeAt set s.house)).record ((x.activeAt set s.house).starts 255 x.source.code) := by
  simp only [State.activate, AlertControl.targetOf_of_unites union, AlertContext.startRecord_eq]
  rfl

theorem State.activateFresh_eq {s : State} {x : AlertContext} {set : ChannelMask} (union : s.alerts.unites x.groupMask set) :
    s.activateFresh x = ((s.withCurrent (x.activeAt set s.house)).record
      ((x.activeAt set s.house).starts 255 x.source.code)).alertMoves 0 set x.feed x.feed := by
  have activated := State.activate_eq union
  have current : (s.activate x).alerts.currentSet = set := by
    rw [activated]
    rfl
  rw [State.activateFresh, current, State.forEnabled_takeIntoAlert _ _ x.feed, activated]

theorem State.recordAlertEnd_eq (s : State) (x : AlertContext) (why : AlertEndReason) :
    s.recordAlertEnd x why = s.record (x.ends why.code s.house) := by
  rw [State.recordAlertEnd, AlertContext.endRecord_eq]

theorem State.handover_eq {s : State} (listed : s.windowsListed) {old new : AlertContext} {was set : ChannelMask}
    (target : old.target = some was) (union : s.alerts.unites new.groupMask set) (why : AlertEndReason) :
    s.handover old new why = ((s.withCurrent (new.activeAt set s.house)).recordAll
      [old.ends why.code s.house, (new.activeAt set s.house).starts 255 new.source.code]).alertMoves was set old.feed new.feed := by
  have union' : (s.record (old.ends why.code s.house)).alerts.unites new.groupMask set := union
  have activated := State.activate_eq union'
  have current : ((s.record (old.ends why.code s.house)).activate new).alerts.currentSet = set := by
    rw [activated]
    rfl
  have own : ((s.record (old.ends why.code s.house)).activate new).windowsOwn was set := by
    rw [activated]
    exact State.windowsOwn_of_listed _ _ _ listed
  have is : old.target.getD 0 = was := by rw [target, Option.getD_some]
  rw [State.handover, State.recordAlertEnd_eq, current, State.handoverChannel_eq, is, State.foldl_moveChannel_finRange own, activated]
  rfl

theorem State.endCurrent_eq {s : State} (listed : s.windowsListed) {x : AlertContext} {set : ChannelMask}
    (target : x.target = some set) (why : AlertEndReason) : s.endCurrent x why =
      (State.record { s with alerts := { s.alerts with current := none } } (x.ends why.code s.house)).alertMoves set 0 x.feed x.feed := by
  have is : x.target.getD 0 = set := by rw [target, Option.getD_some]
  have own : (State.record { s with alerts := { s.alerts with current := none } } (x.ends why.code s.house)).windowsOwn set 0 :=
    State.windowsOwn_of_listed _ _ _ listed
  rw [State.endCurrent, State.recordAlertEnd_eq, is, State.forEnabled_leaveAlert own x.feed x.feed]

theorem AlertContext.reason_eq (x : AlertContext) : x.source.code = x.reason := by
  unfold AlertContext.reason
  cases x.source <;> rfl

/-! ## Arrivals (R155 to R157) -/

section
variable {s : State} {a : Arrival}

theorem State.arrive_known (known : s.alerts.knows a.alert = true) :
    s.arrive a = ({ s with alerts := { s.alerts with duplicates := sat s.alerts.duplicates } }, .duplicate) :=
  if_pos known

theorem State.arrive_fresh (unknown : s.alerts.knows a.alert = false) (current : s.alerts.current = none) :
    s.arrive a = ((s.noteAlert a.alert).activateFresh a.context, .activated) := by
  refine (if_neg (by rw [unknown]; decide)).trans ?_
  simp only [current]
  rfl

theorem State.arrive_current (unknown : s.alerts.knows a.alert = false) {old : AlertContext} (current : s.alerts.current = some old) :
    s.arrive a =
      if old.state = .held ∨ old.level < a.context.level then
        ((s.noteAlert a.alert).handover old a.context .superseded, .activated)
      else s.arriveBehind a.context := by
  refine (if_neg (by rw [unknown]; decide)).trans ?_
  simp only [current]
  rfl

end

/-- How an ALERT_SEND answers for what became of its arrival. -/
def ArrivalResult.answer : ArrivalResult → DirectiveResult × Nat
  | .duplicate => (.refusedState, 1)
  | .activated => (.done, 1)
  | .queued => (.done, 2)
  | .dropped => (.refusedFull, 0)

/-- The arrival that an ALERT_SEND makes (R165). -/
def sentArrival (f : AlertSendFields) (feed : Fin 2) : Arrival :=
  ⟨f.alert, clamp 1 3 f.level, .host, BitVec.ofNat 8 f.groupMask, feed, min f.seconds 7200⟩

theorem sentArrival_context (f : AlertSendFields) (feed : Fin 2) : (sentArrival f feed).context =
    ⟨f.alert, max 1 (min 3 f.level), .host, BitVec.ofNat 8 f.groupMask, feed,
      if f.seconds = 0 then none else some (min f.seconds 7200 * 27000000), .queued, none, none⟩ := by
  have zero : min f.seconds 7200 = 0 ↔ f.seconds = 0 := by omega
  simp only [Arrival.context, sentArrival, zero]
  rfl

theorem State.alertSend_eq {s : State} {f : AlertSendFields} {feed : Fin 2} (isFeed : f.feed = feed) (groups : f.groupMask ≠ 0)
    (t : Ticket) {u : State} {became : ArrivalResult} (arrived : s.arrive (sentArrival f feed) = (u, became)) :
    s.alertSend t f = u.respond t.seq 10 became.answer.1 became.answer.2 t.slot := by
  have lt : f.feed < 2 := by omega
  have same : (⟨f.feed, lt⟩ : Fin 2) = feed := Fin.ext isFeed
  have arrived' : s.arrive ⟨f.alert, clamp 1 3 f.level, .host, BitVec.ofNat 8 f.groupMask, ⟨f.feed, lt⟩, min f.seconds 7200⟩ =
      (u, became) := by
    rw [same]
    exact arrived
  simp only [State.alertSend, lt, dif_pos, groups, if_false, arrived']
  cases became <;> rfl

end Sys2Proof.Machine

namespace Sys2Proof.Machine

/-! ## The queue of contexts (R157) -/

theorem lowestLevel_le {q : List AlertContext} {x : AlertContext} (mem : x ∈ q) : lowestLevel q ≤ x.level := by
  have below (q : List AlertContext) (m : Nat) : q.foldl (fun m x => min m x.level) m ≤ m := by
    induction q generalizing m with
    | nil => exact Nat.le_refl m
    | cons y q ih => exact (ih _).trans (Nat.min_le_left ..)
  obtain ⟨front, back, rfl⟩ := List.append_of_mem mem
  rw [lowestLevel, List.foldl_append, List.foldl_cons]
  exact (below back _).trans (Nat.min_le_right ..)

theorem lowestLevel_eq {q : List AlertContext} {x : AlertContext} (mem : x ∈ q) (lt : x.level < 4) (least : ∀ y ∈ q, x.level ≤ y.level) :
    lowestLevel q = x.level := by
  have le := lowestLevel_le mem
  obtain ⟨y, memY, level⟩ := exists_lowestLevel (le.trans_lt lt)
  have := least y memY
  omega

/-- The context at a level that joined last is the one behind which no other stands at it. -/
theorem takeLastAtLevel_of_last {front back : List AlertContext} {x : AlertContext} (last : ∀ y ∈ back, y.level ≠ x.level) :
    takeLastAtLevel x.level (front ++ x :: back) = (some x, front ++ back) := by
  have behind : ∀ y ∈ back.reverse, ¬ (y.level == x.level) = true := fun y mem => by
    simpa using last y (List.mem_reverse.1 mem)
  have found : back.reverse.find? (fun y => y.level == x.level) = none := List.find?_eq_none.2 behind
  have split : (front ++ x :: back).reverse = back.reverse ++ x :: front.reverse := by simp
  rw [takeLastAtLevel, split, List.find?_append, found, Option.none_or, 
    List.find?_cons_of_pos (p := fun y : AlertContext => y.level == x.level) (beq_self_eq_true x.level), List.eraseP_append_right _ behind,
    List.eraseP_cons_of_pos (p := fun y : AlertContext => y.level == x.level) (beq_self_eq_true x.level), List.reverse_append, List.reverse_reverse,
    List.reverse_reverse]

section
variable {s : State} {x : AlertContext}

theorem State.arriveBehind_room (room : s.alerts.queue.length < 4) : s.arriveBehind x = (s.queueAlert x, .queued) :=
  if_pos room

theorem State.arriveBehind_lowest (full : s.alerts.queue.length = 4) (level : x.level ≤ 3)
    (lowest : ∀ y ∈ s.alerts.queue, x.level ≤ y.level) : s.arriveBehind x = (s.record (x.endRecord .dropped s.house true), .dropped) := by
  have notLower : ¬ lowestLevel s.alerts.queue < x.level := fun lt => by
    obtain ⟨y, mem, same⟩ := exists_lowestLevel (lt.trans_le (level.trans (by decide)))
    have := lowest y mem
    omega
  refine (if_neg (by omega)).trans ?_
  exact if_neg notLower

theorem State.arriveBehind_drops {front back : List AlertContext} {dropped : AlertContext} (full : s.alerts.queue.length = 4)
    (queue : s.alerts.queue = front ++ dropped :: back) (lower : dropped.level < x.level) (level : x.level ≤ 3)
    (before : ∀ y ∈ front, dropped.level ≤ y.level) (behind : ∀ y ∈ back, dropped.level < y.level) : s.arriveBehind x =
      ((State.record { s with alerts := { s.alerts with queue := front ++ back } } (dropped.ends 4 s.house)).queueAlert x, .queued) := by
  have mem : dropped ∈ s.alerts.queue := by simp [queue]
  have low : lowestLevel s.alerts.queue = dropped.level := lowestLevel_eq mem (by omega) fun y memY => by
    rw [queue, List.mem_append, List.mem_cons] at memY
    rcases memY with memY | rfl | memY
    · exact before y memY
    · exact Nat.le_refl _
    · exact (behind y memY).le
  have taken : takeLastAtLevel dropped.level s.alerts.queue = (some dropped, front ++ back) := by
    rw [queue]
    exact takeLastAtLevel_of_last fun y memY => (behind y memY).ne'
  refine (if_neg (by omega)).trans ?_
  simp only [low, lower, if_true, taken, State.recordAlertEnd_eq]
  rfl

end

/-! ## ALERT_SEND (R165) -/

theorem AlertControl.knows_iff (a : AlertControl) (alert : Nat) : a.knows alert = true ↔
    (∃ x, a.current = some x ∧ x.alert = alert) ∨ (∃ x ∈ a.queue, x.alert = alert) ∨ alert ∈ a.recent := by
  simp only [AlertControl.knows, Bool.or_eq_true, Option.any_eq_true, List.any_eq_true, List.contains_iff_mem, beq_iff_eq, or_assoc]

theorem State.alertSend_range {s : State} {f : AlertSendFields} (range : 1 < f.feed ∨ f.groupMask = 0) (t : Ticket) :
    s.alertSend t f = s.respond t.seq 10 .refusedRange 0 t.slot := by
  unfold State.alertSend
  split
  · next lt => exact if_pos (range.resolve_left (by omega))
  · rfl

theorem exec_alertSend_inHand {s : State} {seq slot : Nat} {f : AlertSendFields} (h : s.inHand (.alertSend seq slot f)) :
    exec (.alertSend seq slot f) s = .next (s.taken.alertSend ⟨seq, slot⟩ f) :=
  congrArg Host.Outcome.next (State.takeDirective_of _ h)

/-- An ALERT_SEND with its fields in range, by what becomes of its arrival. -/
theorem exec_alertSend_arrives {s : State} {seq slot : Nat} {f : AlertSendFields} {feed : Fin 2} (h : s.inHand (.alertSend seq slot f))
    (isFeed : f.feed = feed) (groups : f.groupMask ≠ 0) {u : State} {became : ArrivalResult}
    (arrived : s.taken.arrive (sentArrival f feed) = (u, became)) :
    exec (.alertSend seq slot f) s = .next (u.respond seq 10 became.answer.1 became.answer.2 slot) :=
  (exec_alertSend_inHand h).trans (congrArg Host.Outcome.next (State.alertSend_eq isFeed groups ⟨seq, slot⟩ arrived))

end Sys2Proof.Machine

namespace Sys2Proof.Certificates.Slice0

open Sys2Proof.Machine

/-- Settles O37: an arrival that the controller knows is counted; any other that meets an ACTIVE context of its level or a higher one
goes behind it, where `State.arriveBehind_room`, `_lowest` and `_drops` say what becomes of it. -/
theorem alertSendQueuesOrRefuses : Obligations.AlertSendQueuesOrRefuses := by
  intro s seq slot f inHand
  refine ⟨fun range => (exec_alertSend_inHand inHand).trans
    (congrArg Host.Outcome.next (State.alertSend_range range ⟨seq, slot⟩)), fun feed isFeed groups => ?_⟩
  intro known level context
  have run {u became} := exec_alertSend_arrives (u := u) (became := became) inHand isFeed groups
  have isContext : (sentArrival f feed).context = context := sentArrival_context f feed
  have knows : known ↔ s.taken.alerts.knows f.alert = true := (AlertControl.knows_iff s.alerts f.alert).symm
  refine ⟨fun yes => ?_, fun old unknown current active above => ?_⟩
  · have counted := run (State.arrive_known (s := s.taken) (a := sentArrival f feed) (knows.1 yes))
    exact counted
  have behind : s.taken.arrive (sentArrival f feed) = s.taken.arriveBehind context := by
    rw [State.arrive_current (s := s.taken) (Bool.eq_false_iff.2 fun yes => unknown (knows.2 yes)) current, isContext]
    refine if_neg (not_or.2 ⟨by simp [active], Nat.not_lt.2 above⟩)
  have high : context.level ≤ 3 := by
    have : context.level = max 1 (min 3 f.level) := rfl
    omega
  refine ⟨fun room => ?_, fun full lowest => ?_, fun front dropped back full queue lower before after => ?_⟩
  · have queued := run (behind.trans (State.arriveBehind_room (s := s.taken) room))
    exact queued
  · have refused := run (behind.trans (State.arriveBehind_lowest (s := s.taken) full high lowest))
    exact refused
  · have queued := run (behind.trans (State.arriveBehind_drops (s := s.taken) full queue lower high before after))
    exact queued

end Sys2Proof.Certificates.Slice0

namespace Sys2Proof.Machine

/-! ## Activation by directive (R156, R165) -/

/-- The ALERT_START of an arrival by ALERT_SEND holds the seconds that it was sent with, at most two hours. -/
theorem sentArrival_starts (f : AlertSendFields) (feed : Fin 2) (set : ChannelMask) (house : Nat) :
    ((sentArrival f feed).context.activeAt set house).starts 255 (sentArrival f feed).context.source.code =
      ⟨.alertStart, 255, 2, f.alert, set.toNat, min f.seconds 7200 + 65536 * max 1 (min 3 f.level) + 262144 * feed⟩ := by
  have seconds : (if f.seconds = 0 then none else some (min f.seconds 7200 * 27000000)).getD 0 / 27000000 = min f.seconds 7200 := by
    split
    · next zero => rw [zero, Nat.zero_min, Option.getD_none, Nat.zero_div]
    · rw [Option.getD_some, Nat.mul_div_cancel _ (by decide)]
  rw [sentArrival_context]
  exact congrArg (fun n => (⟨.alertStart, 255, 2, f.alert, set.toNat, n + 65536 * max 1 (min 3 f.level) + 262144 * feed⟩ : Record)) seconds

end Sys2Proof.Machine

namespace Sys2Proof.Certificates.Slice0

open Sys2Proof.Machine

/-- Settles O38: the arrival is unknown, so it is activated, by `State.activateFresh_eq` with no alert current and by
`State.handover_eq` in place of one that is HELD or of a lower level. -/
theorem alertSendTakesItsChannels : Obligations.AlertSendTakesItsChannels := by
  intro s seq slot f feed set inHand isFeed groups notRecent notQueued unites level seconds activated start
  have run {u became} := exec_alertSend_arrives (u := u) (became := became) inHand isFeed groups
  have unknown (others : ∀ x, s.alerts.current = some x → x.alert ≠ f.alert) : s.taken.alerts.knows f.alert = false := by
    refine Bool.eq_false_iff.2 fun yes => ?_
    rcases (AlertControl.knows_iff s.alerts f.alert).1 yes with ⟨x, current, same⟩ | ⟨x, mem, same⟩ | mem
    · exact others x current same
    · exact notQueued x mem same
    · exact notRecent mem
  have noted : (s.taken.noteAlert f.alert).withCurrent ((sentArrival f feed).context.activeAt set s.house) = activated := by
    rw [sentArrival_context]
    rfl
  have starts := sentArrival_starts f feed set s.house
  have union : (s.taken.noteAlert f.alert).alerts.unites (sentArrival f feed).context.groupMask set := unites
  refine ⟨fun idle => ?_, fun old was listed current target other supersedes => ?_⟩
  · have fresh := State.arrive_fresh (s := s.taken) (a := sentArrival f feed)
      (unknown fun x current => by simp [idle] at current) idle
    have taken := State.activateFresh_eq (s := s.taken.noteAlert f.alert) (x := (sentArrival f feed).context) union
    have house : (s.taken.noteAlert f.alert).house = s.house := rfl
    rw [house, noted, starts] at taken
    have answered := run (fresh.trans (congrArg (fun u => (u, ArrivalResult.activated)) taken))
    exact answered
  · have behind := State.arrive_current (s := s.taken) (a := sentArrival f feed)
      (unknown fun x known => by
        rw [current, Option.some.injEq] at known
        exact known ▸ other) current
    have gives : old.state = .held ∨ old.level < (sentArrival f feed).context.level := by
      rw [sentArrival_context]
      exact supersedes.imp_right And.right
    rw [if_pos gives] at behind
    have taken := State.handover_eq (s := s.taken.noteAlert f.alert) (old := old) (new := (sentArrival f feed).context)
      listed target union .superseded
    have house : (s.taken.noteAlert f.alert).house = s.house := rfl
    rw [house, noted, starts] at taken
    have answered := run (behind.trans (congrArg (fun u => (u, ArrivalResult.activated)) taken))
    exact answered

end Sys2Proof.Certificates.Slice0

namespace Sys2Proof.Machine

/-! ## The ways out of an alert (R162, R166) -/

/-- Records look at no alert. -/
theorem State.recordAll_alerts (l : List Record) (s : State) (alerts : AlertControl) :
    State.recordAll { s with alerts := alerts } l = { s.recordAll l with alerts := alerts } := by
  induction l generalizing s with
  | nil => rfl
  | cons r l ih => exact ih (s.record r)

theorem State.foldl_recordAlertEnd (why : AlertEndReason) (q : List AlertContext) (s : State) :
    q.foldl (fun s x => s.recordAlertEnd x why) s = s.recordAll (q.map fun x => x.ends why.code s.house) := by
  induction q generalizing s with
  | nil => rfl
  | cons x q ih =>
    rw [List.foldl_cons, ih, State.recordAlertEnd_eq]
    rfl

theorem State.flushQueue_eq (s : State) : s.flushQueue =
    State.recordAll { s with alerts := { s.alerts with queue := [] } } (s.alerts.queue.map fun x => x.ends 4 s.house) :=
  State.foldl_recordAlertEnd .dropped s.alerts.queue { s with alerts := { s.alerts with queue := [] } }

/-- Records look at no window and at no channel. -/
theorem State.windowsListed_recordAll {s : State} (h : s.windowsListed) (l : List Record) : (s.recordAll l).windowsListed := by
  rw [State.recordAll_eq]
  exact h

/-- The alert ends, and those queued behind it before it. -/
theorem State.flushQueue_endCurrent {s : State} (listed : s.windowsListed) {x : AlertContext} {set : ChannelMask}
    (target : x.target = some set) : s.flushQueue.endCurrent x .cleared =
      (State.recordAll { s with alerts := { s.alerts with current := none, queue := [] } }
        (s.alerts.queue.map (fun y => y.ends 4 s.house) ++ [x.ends 3 s.house])).alertMoves set 0 x.feed x.feed := by
  have listed' : s.flushQueue.windowsListed := by
    rw [State.flushQueue_eq]
    exact State.windowsListed_recordAll (s := { s with alerts := { s.alerts with queue := [] } }) listed _
  have alerts : s.flushQueue.alerts = { s.alerts with queue := [] } := by
    rw [State.flushQueue_eq, State.recordAll_alerts]
  have house : s.flushQueue.house = s.house := by
    rw [State.flushQueue_eq, State.recordAll_eq]
  have ended : ({ s.flushQueue with alerts := { s.flushQueue.alerts with current := none } } : State) =
      State.recordAll { s with alerts := { s.alerts with current := none, queue := [] } } (s.alerts.queue.map fun y => y.ends 4 s.house) := by
    rw [alerts, State.flushQueue_eq, State.recordAll_alerts _ s { s.alerts with queue := [] }]
    exact (State.recordAll_alerts _ s { s.alerts with current := none, queue := [] }).symm
  rw [State.endCurrent_eq listed' target, ended, house, State.recordAll_append]
  rfl

/-- The alert ends with nothing queued behind it. -/
theorem State.endCurrent_alone {s : State} (listed : s.windowsListed) {x : AlertContext} {set : ChannelMask}
    (target : x.target = some set) (alone : s.alerts.queue = []) : s.endCurrent x .cleared =
      (State.recordAll { s with alerts := { s.alerts with current := none, queue := [] } }
        (s.alerts.queue.map (fun y => y.ends 4 s.house) ++ [x.ends 3 s.house])).alertMoves set 0 x.feed x.feed := by
  have same : ({ s.alerts with current := none, queue := [] } : AlertControl) = { s.alerts with current := none } := by rw [← alone]
  rw [State.endCurrent_eq listed target, alone, same, List.map_nil, List.nil_append]
  rfl

/-- The head of the queue becomes current. -/
theorem State.handToHead_eq {s : State} (listed : s.windowsListed) {x head : AlertContext} {rest : List AlertContext}
    {set now : ChannelMask} (target : x.target = some set) (unites : s.alerts.unites head.groupMask now) (why : AlertEndReason) :
    s.handToHead x head rest why =
      (State.recordAll { s with alerts := { s.alerts with queue := rest, current := some (head.activeAt now s.house) } }
        [x.ends why.code s.house, (head.activeAt now s.house).starts 255 (head.activeAt now s.house).reason]).alertMoves
          set now x.feed head.feed := by
  have handed := State.handover_eq (s := { s with alerts := { s.alerts with queue := rest } }) (old := x) (new := head)
    listed target unites why
  rw [AlertContext.reason_eq] at handed
  exact handed

/-! ## ALERT_CLEAR (R166) -/

section
variable {s : State} {t : Ticket} {flush : Nat} {x : AlertContext}

theorem State.alertClear_idle (current : s.alerts.current = none) : s.alertClear t flush = s.respond t.seq 11 .refusedState 1 t.slot := by
  simp only [State.alertClear, current]

theorem State.alertClear_flush (current : s.alerts.current = some x) (isFlush : flush ≠ 0) :
    s.alertClear t flush = (s.flushQueue.endCurrent x .cleared).respond t.seq 11 .done 0 t.slot := by
  simp only [State.alertClear, current, isFlush, if_false]

theorem State.alertClear_alone (current : s.alerts.current = some x) (alone : s.alerts.queue = []) :
    s.alertClear t 0 = (s.endCurrent x .cleared).respond t.seq 11 .done 0 t.slot := by
  simp only [State.alertClear, current, alone, if_true]

theorem State.alertClear_head {head : AlertContext} {rest : List AlertContext} (current : s.alerts.current = some x)
    (queue : s.alerts.queue = head :: rest) :
    s.alertClear t 0 = (s.handToHead x head rest .cleared).respond t.seq 11 .done 0 t.slot := by
  simp only [State.alertClear, current, queue, if_true]

end

theorem exec_alertClear_inHand {s : State} {seq slot flush : Nat} (h : s.inHand (.alertClear seq slot flush)) :
    exec (.alertClear seq slot flush) s = .next (s.taken.alertClear ⟨seq, slot⟩ flush) :=
  congrArg Host.Outcome.next (State.takeDirective_of _ h)

/-! ## ALERT_EXPIRY (R162) -/

section
variable {s : State} {x : AlertContext}

theorem State.expire_holds (queue : s.alerts.queue = []) (mode : s.alerts.mode = .holdLast) :
    s.expire x = { s with alerts := { s.alerts with current := some { x with state := .held } } } := by
  simp only [State.expire, queue, mode]

theorem State.expire_ends (queue : s.alerts.queue = []) (mode : s.alerts.mode = .mayEmpty) : s.expire x = s.endCurrent x .expired := by
  simp only [State.expire, queue, mode]

theorem State.expire_head {head : AlertContext} {rest : List AlertContext} (queue : s.alerts.queue = head :: rest) :
    s.expire x = s.handToHead x head rest .expired := by
  simp only [State.expire, queue]

theorem exec_alertExpiry_no (no : ∀ x, s.alerts.current = some x → x.state ≠ .active ∨ x.duration = none) :
    exec .alertExpiry s = .next s := by
  refine congrArg Host.Outcome.next ?_
  split
  · rfl
  · next x current =>
    split
    · next state activated duration =>
      rcases no x current with other | open_
      · exact absurd state other
      · rw [open_] at duration
        cases duration
    · rfl

theorem exec_alertExpiry_active {start ticks : Nat} (current : s.alerts.current = some x) (active : x.state = .active)
    (activated : x.activated = some start) (duration : x.duration = some ticks) :
    exec .alertExpiry s = .next ((s.atTime (start + ticks)).expire x) := by
  refine congrArg Host.Outcome.next ?_
  simp only [current, active, activated, duration]

end

end Sys2Proof.Machine

namespace Sys2Proof.Certificates.Slice0

open Sys2Proof.Machine

/-- Settles O39: the branches of `State.alertClear` in the state with the directive taken, each with the equation of how its alert
ends. -/
theorem alertClearReleasesItsChannels : Obligations.AlertClearReleasesItsChannels := by
  intro s seq slot flush listed inHand
  have run := exec_alertClear_inHand inHand
  have listed' : s.taken.windowsListed := listed
  refine ⟨fun idle => run.trans (congrArg Host.Outcome.next (State.alertClear_idle (s := s.taken) (t := ⟨seq, slot⟩) idle)),
    fun x set current target => ⟨fun out => ?_, fun head rest now isZero queue unites => ?_⟩⟩
  · intro ended records
    by_cases isFlush : flush ≠ 0
    · have cleared := State.alertClear_flush (s := s.taken) (t := ⟨seq, slot⟩) current isFlush
      rw [State.flushQueue_endCurrent listed' target] at cleared
      exact run.trans (congrArg Host.Outcome.next cleared)
    · have zero : flush = 0 := not_not.1 isFlush
      subst zero
      have alone : s.taken.alerts.queue = [] := out.resolve_left isFlush
      have cleared := State.alertClear_alone (s := s.taken) (t := ⟨seq, slot⟩) current alone
      rw [State.endCurrent_alone listed' target alone] at cleared
      exact run.trans (congrArg Host.Outcome.next cleared)
  · subst isZero
    intro new handed
    have cleared := State.alertClear_head (s := s.taken) (t := ⟨seq, slot⟩) current queue
    rw [State.handToHead_eq (s := s.taken) listed' target unites] at cleared
    exact run.trans (congrArg Host.Outcome.next cleared)

/-- Settles O40: nothing expires without an ACTIVE alert that has a duration; with one, the branches of `State.expire` at the
expiry time. -/
theorem alertsExpire : Obligations.AlertsExpire := by
  intro s listed
  refine ⟨exec_alertExpiry_no, fun x start ticks set current active activated duration target => ?_⟩
  intro late
  have run := exec_alertExpiry_active current active activated duration
  have listed' : late.windowsListed := listed
  refine ⟨fun queue mode => run.trans (congrArg Host.Outcome.next (State.expire_holds (s := late) queue mode)),
    fun queue mode => ?_, fun head rest now queue unites => ?_⟩
  · have expired := State.expire_ends (s := late) (x := x) queue mode
    rw [State.endCurrent_eq listed' target] at expired
    exact run.trans (congrArg Host.Outcome.next expired)
  · intro new
    have expired := State.expire_head (s := late) (x := x) queue
    rw [State.handToHead_eq (s := late) listed' target unites] at expired
    exact run.trans (congrArg Host.Outcome.next expired)

end Sys2Proof.Certificates.Slice0

namespace Sys2Proof.Machine

/-! ## Bytes of a cell -/

section
variable {c : List Byte} {i j : Nat}

theorem cellByte_setByte_self (h : i < c.length) (b : Byte) : cellByte (setByte c i b) i = b := by
  rw [cellByte, setByte, List.getD_eq_getElem _ _ (by rwa [List.length_set]), List.getElem_set_self]

theorem cellByte_setByte_ne (h : i ≠ j) (b : Byte) : cellByte (setByte c i b) j = cellByte c j := by
  simp only [cellByte, setByte, List.getD_eq_getElem?_getD, List.getElem?_set_ne h]

theorem length_setByte (c : List Byte) (i : Nat) (b : Byte) : (setByte c i b).length = c.length :=
  List.length_set

theorem cellByte_of_lt {l : List Byte} (h : i < l.length) : cellByte l i = l[i] :=
  List.getD_eq_getElem _ _ h

end

/-! ## A timestamp written (R21) -/

section
variable {c : List Byte} {i : Nat} (v : Pts)

theorem length_setTimestamp : (setTimestamp c i v).length = c.length := by
  simp only [setTimestamp, length_setByte]

theorem cellByte_setTimestamp_other {j : Nat} (h : j < i ∨ i + 5 ≤ j) : cellByte (setTimestamp c i v) j = cellByte c j := by
  rw [setTimestamp, cellByte_setByte_ne (by omega), cellByte_setByte_ne (by omega), cellByte_setByte_ne (by omega),
    cellByte_setByte_ne (by omega), cellByte_setByte_ne (by omega)]

/-- The five bytes of a timestamp written. -/
theorem cellByte_setTimestamp (h : i + 5 ≤ c.length) :
    cellByte (setTimestamp c i v) i = (cellByte c i).extractLsb' 4 4 ++ v.extractLsb' 30 3 ++ (cellByte c i).extractLsb' 0 1 ∧
    cellByte (setTimestamp c i v) (i + 1) = v.extractLsb' 22 8 ∧
    cellByte (setTimestamp c i v) (i + 2) = v.extractLsb' 15 7 ++ (cellByte c (i + 2)).extractLsb' 0 1 ∧
    cellByte (setTimestamp c i v) (i + 3) = v.extractLsb' 7 8 ∧
    cellByte (setTimestamp c i v) (i + 4) = v.extractLsb' 0 7 ++ (cellByte c (i + 4)).extractLsb' 0 1 := by
  unfold setTimestamp
  refine ⟨?_, ?_, ?_, ?_, ?_⟩
  · rw [cellByte_setByte_ne (by omega), cellByte_setByte_ne (by omega), cellByte_setByte_ne (by omega), cellByte_setByte_ne (by omega),
      cellByte_setByte_self (by omega)]
  · rw [cellByte_setByte_ne (by omega), cellByte_setByte_ne (by omega), cellByte_setByte_ne (by omega),
      cellByte_setByte_self (by simp only [length_setByte]; omega)]
  · rw [cellByte_setByte_ne (by omega), cellByte_setByte_ne (by omega), cellByte_setByte_self (by simp only [length_setByte]; omega)]
  · rw [cellByte_setByte_ne (by omega), cellByte_setByte_self (by simp only [length_setByte]; omega)]
  · rw [cellByte_setByte_self (by simp only [length_setByte]; omega)]

/-- The bits of a 33-bit value, parted as R21 parts them, and put together again. -/
theorem timestamp_parts (b0 b2 b4 : Byte) :
    (b0.extractLsb' 4 4 ++ v.extractLsb' 30 3 ++ b0.extractLsb' 0 1).extractLsb' 1 3 ++ v.extractLsb' 22 8 ++
      (v.extractLsb' 15 7 ++ b2.extractLsb' 0 1).extractLsb' 1 7 ++ v.extractLsb' 7 8 ++
      (v.extractLsb' 0 7 ++ b4.extractLsb' 0 1).extractLsb' 1 7 = v := by
  have first : (b0.extractLsb' 4 4 ++ v.extractLsb' 30 3 ++ b0.extractLsb' 0 1).extractLsb' 1 3 = v.extractLsb' 30 3 := by
    rw [BitVec.extractLsb'_append_eq_of_le (Nat.le_refl 1), BitVec.extractLsb'_append_eq_of_add_le (by decide), BitVec.extractLsb'_eq_self]
  rw [first, BitVec.extractLsb'_append_eq_left, BitVec.extractLsb'_append_eq_left,
    BitVec.extractLsb'_append_extractLsb'_eq_extractLsb' (by decide), BitVec.extractLsb'_append_extractLsb'_eq_extractLsb' (by decide),
    BitVec.extractLsb'_append_extractLsb'_eq_extractLsb' (by decide), BitVec.extractLsb'_append_extractLsb'_eq_extractLsb' (by decide)]
  exact BitVec.extractLsb'_eq_self

theorem timestampAt_setTimestamp (h : i + 5 ≤ c.length) : timestampAt (setTimestamp c i v) i = v := by
  obtain ⟨b0, b1, b2, b3, b4⟩ := cellByte_setTimestamp v h
  rw [timestampAt, b0, b1, b2, b3, b4]
  exact timestamp_parts v ..

theorem timestampAt_congr {c' : List Byte} (same : ∀ j, i ≤ j → j < i + 5 → cellByte c' j = cellByte c j) :
    timestampAt c' i = timestampAt c i := by
  rw [timestampAt, timestampAt, same i (by omega) (by omega), same (i + 1) (by omega) (by omega), same (i + 2) (by omega) (by omega),
    same (i + 3) (by omega) (by omega), same (i + 4) (by omega) (by omega)]

end

/-! ## A PCR base written (R55) -/

section
variable {c : List Byte} (v : Pts)

theorem length_setPcrBase : (setPcrBase c v).length = c.length := by
  simp only [setPcrBase, length_setByte]

theorem cellByte_setPcrBase_other {j : Nat} (h : j < 10 ∨ 15 ≤ j) : cellByte (setPcrBase c v) j = cellByte c j := by
  rw [setPcrBase, cellByte_setByte_ne (by omega), cellByte_setByte_ne (by omega), cellByte_setByte_ne (by omega),
    cellByte_setByte_ne (by omega), cellByte_setByte_ne (by omega)]

/-- The five bytes of a PCR base written. -/
theorem cellByte_setPcrBase (h : 15 ≤ c.length) :
    cellByte (setPcrBase c v) 10 = v.extractLsb' 25 8 ∧ cellByte (setPcrBase c v) 11 = v.extractLsb' 17 8 ∧
    cellByte (setPcrBase c v) 12 = v.extractLsb' 9 8 ∧ cellByte (setPcrBase c v) 13 = v.extractLsb' 1 8 ∧
    cellByte (setPcrBase c v) 14 = v.extractLsb' 0 1 ++ (cellByte c 14).extractLsb' 0 7 := by
  unfold setPcrBase
  refine ⟨?_, ?_, ?_, ?_, ?_⟩
  · rw [cellByte_setByte_ne (by omega), cellByte_setByte_ne (by omega), cellByte_setByte_ne (by omega), cellByte_setByte_ne (by omega),
      cellByte_setByte_self (by omega)]
  · rw [cellByte_setByte_ne (by omega), cellByte_setByte_ne (by omega), cellByte_setByte_ne (by omega),
      cellByte_setByte_self (by simp only [length_setByte]; omega)]
  · rw [cellByte_setByte_ne (by omega), cellByte_setByte_ne (by omega), cellByte_setByte_self (by simp only [length_setByte]; omega)]
  · rw [cellByte_setByte_ne (by omega), cellByte_setByte_self (by simp only [length_setByte]; omega)]
  · rw [cellByte_setByte_self (by simp only [length_setByte]; omega)]

theorem pcrBase_parts (b : Byte) :
    v.extractLsb' 25 8 ++ v.extractLsb' 17 8 ++ v.extractLsb' 9 8 ++ v.extractLsb' 1 8 ++
      (v.extractLsb' 0 1 ++ b.extractLsb' 0 7).extractLsb' 7 1 = v := by
  rw [BitVec.extractLsb'_append_eq_left, BitVec.extractLsb'_append_extractLsb'_eq_extractLsb' (by decide),
    BitVec.extractLsb'_append_extractLsb'_eq_extractLsb' (by decide), BitVec.extractLsb'_append_extractLsb'_eq_extractLsb' (by decide),
    BitVec.extractLsb'_append_extractLsb'_eq_extractLsb' (by decide)]
  exact BitVec.extractLsb'_eq_self

theorem pcrBase_setPcrBase (h : 15 ≤ c.length) : pcrBase (setPcrBase c v) = v := by
  obtain ⟨b0, b1, b2, b3, b4⟩ := cellByte_setPcrBase v h
  rw [pcrBase, b0, b1, b2, b3, b4]
  exact pcrBase_parts v _

end

end Sys2Proof.Machine

namespace Sys2Proof.Machine

/-! ## Where the timestamps stand (R20, R21) -/

section
variable {c : List Byte} {p : Nat}

theorem payloadStart_ge (h : payloadStart c = some p) : 8 ≤ p := by
  unfold payloadStart at h
  split at h
  · cases h
    exact Nat.le_refl 8
  · split at h
    · cases h
      omega
    · cases h

/-- A cell with a readable PCR has its payload behind it. -/
theorem payloadStart_ge_of_pcr (pcr : pcrReadable c = true) (h : payloadStart c = some p) : 16 ≤ p := by
  simp only [pcrReadable, pcrPresent, flagsRead, adaptationReadable, Bool.and_eq_true, decide_eq_true_eq, Bool.or_eq_true,
    beq_iff_eq] at pcr
  obtain ⟨⟨-, ⟨⟨control, -⟩, long⟩, -⟩, -⟩ := pcr
  unfold payloadStart at h
  split at h
  · next one =>
    rw [beq_iff_eq] at one
    rw [one] at control
    exact absurd control (by simp)
  · split at h
    · cases h
      omega
    · cases h

theorem ptsPayload_some (h : ptsPayload c = some p) : payloadStart c = some p ∧ p ≤ 178 := by
  unfold ptsPayload at h
  split at h
  · cases h
  · next q start =>
    split at h
    · next readable =>
      cases h
      simp only [Bool.and_eq_true, decide_eq_true_eq] at readable
      exact ⟨start, readable.2⟩
    · cases h

theorem dtsPayload_some (h : dtsPayload c = some p) : ptsPayload c = some p ∧ p + 18 ≤ 191 := by
  unfold dtsPayload at h
  split at h
  · cases h
  · next q pts =>
    split at h
    · next readable =>
      cases h
      simp only [Bool.and_eq_true, decide_eq_true_eq] at readable
      exact ⟨pts, readable.2⟩
    · cases h

variable {c' : List Byte}

theorem payloadStart_congr (head : ∀ j < 10, cellByte c' j = cellByte c j) : payloadStart c' = payloadStart c := by
  unfold payloadStart adaptationReadable adaptationControl adaptationLength
  rw [head 7 (by decide), head 8 (by decide)]

variable (head : ∀ j < 10, cellByte c' j = cellByte c j)
  (start : ∀ p, payloadStart c = some p → ∀ k < 9, cellByte c' (p + k) = cellByte c (p + k))
include head start

theorem ptsPayload_congr : ptsPayload c' = ptsPayload c := by
  unfold ptsPayload wellFormed payloadUnitStart scrambling
  rw [payloadStart_congr head]
  cases known : payloadStart c with
  | none => rfl
  | some p =>
    have same := start p known
    have zero := same 0 (by decide)
    rw [Nat.add_zero] at zero
    dsimp only
    rw [head 4 (by decide), head 5 (by decide), head 7 (by decide), zero, same 1 (by decide), same 2 (by decide), same 7 (by decide),
      same 8 (by decide)]

theorem dtsPayload_congr : dtsPayload c' = dtsPayload c := by
  unfold dtsPayload
  rw [ptsPayload_congr head start]
  cases known : ptsPayload c with
  | none => rfl
  | some p =>
    have same := start p (ptsPayload_some known).1
    dsimp only
    rw [same 7 (by decide), same 8 (by decide)]

end

/-! ## What is written -/

section
variable {c : List Byte} {i : Nat} (v : Pts)

theorem getLsbD_append_low {n : Nat} (a : BitVec n) (b : Byte) : (a ++ b.extractLsb' 0 1).getLsbD 0 = b.getLsbD 0 := by
  rw [BitVec.getLsbD_append, BitVec.getLsbD_extractLsb']
  rfl

/-- The bits about a timestamp that are none of its own stay. -/
theorem setTimestamp_marks (h : i + 5 ≤ c.length) :
    (cellByte (setTimestamp c i v) i).extractLsb' 4 4 = (cellByte c i).extractLsb' 4 4 ∧
    ∀ k, k = 0 ∨ k = 2 ∨ k = 4 → (cellByte (setTimestamp c i v) (i + k)).getLsbD 0 = (cellByte c (i + k)).getLsbD 0 := by
  obtain ⟨b0, -, b2, -, b4⟩ := cellByte_setTimestamp v h
  refine ⟨?_, ?_⟩
  · rw [b0, BitVec.extractLsb'_append_eq_of_le (by decide)]
    exact BitVec.extractLsb'_append_eq_left
  · rintro k (rfl | rfl | rfl)
    · rw [Nat.add_zero, b0]
      exact getLsbD_append_low ..
    · rw [b2]
      exact getLsbD_append_low ..
    · rw [b4]
      exact getLsbD_append_low ..

variable {c' : List Byte} {j : Nat}

/-- The bytes of a timestamp written are made of the bytes that stood in its place. -/
theorem cellByte_setTimestamp_congr (h : i + 5 ≤ c.length) (h' : i + 5 ≤ c'.length)
    (same : ∀ j, i ≤ j → j < i + 5 → cellByte c' j = cellByte c j) (ge : i ≤ j) (lt : j < i + 5) :
    cellByte (setTimestamp c' i v) j = cellByte (setTimestamp c i v) j := by
  obtain ⟨a0, a1, a2, a3, a4⟩ := cellByte_setTimestamp v h
  obtain ⟨b0, b1, b2, b3, b4⟩ := cellByte_setTimestamp v h'
  obtain rfl | rfl | rfl | rfl | rfl : j = i ∨ j = i + 1 ∨ j = i + 2 ∨ j = i + 3 ∨ j = i + 4 := by omega
  · rw [a0, b0, same j ge lt]
  · rw [a1, b1]
  · rw [a2, b2, same (i + 2) ge lt]
  · rw [a3, b3]
  · rw [a4, b4, same (i + 4) ge lt]

end

/-! ## Rebasing (R55) -/

section
variable {c : List Byte} {p : Nat} (d : Pts)

theorem rebaseStamps_none (h : ptsPayload c = none) : rebaseStamps c d = c := by
  simp only [rebaseStamps, h]

theorem rebaseStamps_pts (pts : ptsPayload c = some p) (dts : dtsPayload c = none) :
    rebaseStamps c d = setTimestamp c (p + 9) (timestampAt c (p + 9) + d) := by
  simp only [rebaseStamps, pts, dts, Option.isSome_none, Bool.false_eq_true, if_false]

theorem rebaseStamps_dts (dts : dtsPayload c = some p) : rebaseStamps c d =
    setTimestamp (setTimestamp c (p + 9) (timestampAt c (p + 9) + d)) (p + 14) (timestampAt c (p + 14) + d) := by
  simp only [rebaseStamps, (dtsPayload_some dts).1, dts, Option.isSome_some, if_true]

theorem length_rebaseStamps : (rebaseStamps c d).length = c.length := by
  cases pts : ptsPayload c with
  | none => rw [rebaseStamps_none d pts]
  | some p =>
    cases dts : dtsPayload c with
    | none => rw [rebaseStamps_pts d pts dts, length_setTimestamp]
    | some q => rw [rebaseStamps_dts d dts, length_setTimestamp, length_setTimestamp]

theorem length_rebase : (rebase c d).length = c.length := by
  unfold rebase
  dsimp only
  split
  · rw [length_setPcrBase, length_rebaseStamps]
  · exact length_rebaseStamps d

/-- Outside the fields of a readable PTS and DTS nothing moves. -/
theorem cellByte_rebaseStamps_other {i : Nat} (notPts : ∀ p, ptsPayload c = some p → i < p + 9 ∨ p + 14 ≤ i)
    (notDts : ∀ p, dtsPayload c = some p → i < p + 14 ∨ p + 19 ≤ i) : cellByte (rebaseStamps c d) i = cellByte c i := by
  cases pts : ptsPayload c with
  | none => rw [rebaseStamps_none d pts]
  | some p =>
    cases dts : dtsPayload c with
    | none => rw [rebaseStamps_pts d pts dts, cellByte_setTimestamp_other _ (notPts p pts)]
    | some q =>
      rw [rebaseStamps_dts d dts, cellByte_setTimestamp_other _ (notDts q dts),
        cellByte_setTimestamp_other _ (notPts q (dtsPayload_some dts).1)]

/-- The bytes before the payload's fields are those of a PCR or stay. -/
theorem cellByte_rebase_of_ge {i : Nat} (ge : 15 ≤ i) : cellByte (rebase c d) i = cellByte (rebaseStamps c d) i := by
  unfold rebase
  dsimp only
  split
  · exact cellByte_setPcrBase_other _ (.inr ge)
  · rfl

theorem cellByte_rebase_other {i : Nat} (notPts : ∀ p, ptsPayload c = some p → i < p + 9 ∨ p + 14 ≤ i)
    (notDts : ∀ p, dtsPayload c = some p → i < p + 14 ∨ p + 19 ≤ i) (notPcr : pcrReadable c = true → i < 10 ∨ 15 ≤ i) :
    cellByte (rebase c d) i = cellByte c i := by
  rw [← cellByte_rebaseStamps_other d notPts notDts]
  unfold rebase
  dsimp only
  split
  · next pcr => exact cellByte_setPcrBase_other _ (notPcr pcr)
  · rfl

theorem cellByte_rebaseStamps_of_lt {i : Nat} (lt : i < 17) : cellByte (rebaseStamps c d) i = cellByte c i := by
  refine cellByte_rebaseStamps_other d (fun p pts => ?_) fun p dts => ?_
  · have := payloadStart_ge (ptsPayload_some pts).1
    omega
  · have := payloadStart_ge (ptsPayload_some (dtsPayload_some dts).1).1
    omega

theorem cellByte_rebase_head {i : Nat} (lt : i < 10) : cellByte (rebase c d) i = cellByte c i := by
  refine cellByte_rebase_other d (fun p pts => ?_) (fun p dts => ?_) fun _ => .inl lt
  · have := payloadStart_ge (ptsPayload_some pts).1
    omega
  · have := payloadStart_ge (ptsPayload_some (dtsPayload_some dts).1).1
    omega

theorem cellByte_rebase_start (start : payloadStart c = some p) {k : Nat} (lt : k < 9) :
    cellByte (rebase c d) (p + k) = cellByte c (p + k) := by
  refine cellByte_rebase_other d (fun q pts => ?_) (fun q dts => ?_) fun pcr => ?_
  · have same := start.symm.trans (ptsPayload_some pts).1
    cases same
    omega
  · have same := start.symm.trans (ptsPayload_some (dtsPayload_some dts).1).1
    cases same
    omega
  · have := payloadStart_ge_of_pcr pcr start
    omega

theorem ptsPayload_rebase : ptsPayload (rebase c d) = ptsPayload c :=
  ptsPayload_congr (fun _ => cellByte_rebase_head d) fun _ start _ => cellByte_rebase_start d start

theorem dtsPayload_rebase : dtsPayload (rebase c d) = dtsPayload c :=
  dtsPayload_congr (fun _ => cellByte_rebase_head d) fun _ start _ => cellByte_rebase_start d start

/-- The bytes of a readable PTS are those of it moved. -/
theorem cellByte_rebase_pts (pts : ptsPayload c = some p) {j : Nat} (ge : p + 9 ≤ j) (lt : j < p + 14) :
    cellByte (rebase c d) j = cellByte (setTimestamp c (p + 9) (timestampAt c (p + 9) + d)) j := by
  obtain ⟨start, -⟩ := ptsPayload_some pts
  have := payloadStart_ge start
  rw [cellByte_rebase_of_ge d (by omega)]
  cases dts : dtsPayload c with
  | none => rw [rebaseStamps_pts d pts dts]
  | some q =>
    obtain ⟨pts', -⟩ := dtsPayload_some dts
    cases pts.symm.trans pts'
    rw [rebaseStamps_dts d dts, cellByte_setTimestamp_other _ (.inl lt)]

/-- The bytes of a readable DTS are those of it moved. -/
theorem cellByte_rebase_dts (len : c.length = 192) (dts : dtsPayload c = some p) {j : Nat} (ge : p + 14 ≤ j) (lt : j < p + 19) :
    cellByte (rebase c d) j = cellByte (setTimestamp c (p + 14) (timestampAt c (p + 14) + d)) j := by
  obtain ⟨pts, le⟩ := dtsPayload_some dts
  have := payloadStart_ge (ptsPayload_some pts).1
  rw [cellByte_rebase_of_ge d (by omega), rebaseStamps_dts d dts]
  refine cellByte_setTimestamp_congr _ (by omega) (by rw [length_setTimestamp]; omega) (fun k ge lt => ?_) ge lt
  exact cellByte_setTimestamp_other _ (.inr ge)

theorem timestampAt_rebase_pts (len : c.length = 192) (pts : ptsPayload c = some p) :
    timestampAt (rebase c d) (p + 9) = timestampAt c (p + 9) + d := by
  obtain ⟨-, le⟩ := ptsPayload_some pts
  rw [timestampAt_congr (c := setTimestamp c (p + 9) (timestampAt c (p + 9) + d)) fun j ge lt => cellByte_rebase_pts d pts ge lt]
  exact timestampAt_setTimestamp _ (by omega)

theorem timestampAt_rebase_dts (len : c.length = 192) (dts : dtsPayload c = some p) :
    timestampAt (rebase c d) (p + 14) = timestampAt c (p + 14) + d := by
  obtain ⟨-, le⟩ := dtsPayload_some dts
  rw [timestampAt_congr (c := setTimestamp c (p + 14) (timestampAt c (p + 14) + d)) fun j ge lt => cellByte_rebase_dts d len dts ge lt]
  exact timestampAt_setTimestamp _ (by omega)

theorem readPts_rebase (len : c.length = 192) : readPts (rebase c d) = (readPts c).map (· + d) := by
  rw [readPts, readPts, ptsPayload_rebase]
  cases pts : ptsPayload c with
  | none => rfl
  | some p => exact congrArg some (timestampAt_rebase_pts d len pts)

theorem readDts_rebase (len : c.length = 192) : readDts (rebase c d) = (readDts c).map (· + d) := by
  rw [readDts, readDts, dtsPayload_rebase]
  cases dts : dtsPayload c with
  | none => rfl
  | some p => exact congrArg some (timestampAt_rebase_dts d len dts)

/-! ### The PCR -/

theorem rebase_of_pcr (pcr : pcrReadable c = true) : rebase c d = setPcrBase (rebaseStamps c d) (pcrBase c + d) :=
  if_pos pcr

theorem cellByte_rebase_pcr_low (len : c.length = 192) :
    (cellByte (rebase c d) 14).extractLsb' 0 7 = (cellByte c 14).extractLsb' 0 7 := by
  have stamps := cellByte_rebaseStamps_of_lt (c := c) d (i := 14) (by decide)
  by_cases pcr : pcrReadable c = true
  · obtain ⟨-, -, -, -, b4⟩ := cellByte_setPcrBase (c := rebaseStamps c d) (pcrBase c + d) (by rw [length_rebaseStamps]; omega)
    rw [rebase_of_pcr d pcr, b4, stamps]
    exact BitVec.extractLsb'_append_eq_right
  · rw [← stamps]
    unfold rebase
    rw [if_neg pcr]

theorem pcrExtension_rebase (len : c.length = 192) : pcrExtension (rebase c d) = pcrExtension c := by
  have low : (cellByte (rebase c d) 14).extractLsb' 0 1 = (cellByte c 14).extractLsb' 0 1 := by
    have seven := congrArg (BitVec.extractLsb' 0 1) (cellByte_rebase_pcr_low d len)
    rwa [BitVec.extractLsb'_extractLsb'_of_le (by decide), BitVec.extractLsb'_extractLsb'_of_le (by decide)] at seven
  have last : cellByte (rebase c d) 15 = cellByte c 15 := by
    rw [cellByte_rebase_of_ge d (Nat.le_refl 15)]
    exact cellByte_rebaseStamps_of_lt d (by decide)
  rw [pcrExtension, pcrExtension, low, last]

theorem pcrReadable_rebase (len : c.length = 192) : pcrReadable (rebase c d) = pcrReadable c := by
  have head {i : Nat} (lt : i < 10) := cellByte_rebase_head (c := c) d lt
  unfold pcrReadable wellFormed pcrPresent flagsRead adaptationReadable adaptationControl adaptationLength
  rw [pcrExtension_rebase d len, head (i := 4) (by decide), head (i := 7) (by decide), head (i := 8) (by decide),
    head (i := 9) (by decide)]

theorem pcrBase_rebase (len : c.length = 192) (pcr : pcrReadable c = true) : pcrBase (rebase c d) = pcrBase c + d := by
  rw [rebase_of_pcr d pcr]
  exact pcrBase_setPcrBase _ (by rw [length_rebaseStamps]; omega)

theorem readPcr_rebase (len : c.length = 192) :
    readPcr (rebase c d) = (readPcr c).map fun total => (total + 300 * d.toNat) % 2576980377600 := by
  rw [readPcr, readPcr, pcrReadable_rebase d len]
  by_cases pcr : pcrReadable c = true
  · have small : pcrExtension c ≤ 299 := by
      simp only [pcrReadable, Bool.and_eq_true, decide_eq_true_eq] at pcr
      exact pcr.2
    rw [if_pos pcr, if_pos pcr, Option.map_some, pcrBase_rebase d len pcr, pcrExtension_rebase d len, BitVec.toNat_add]
    have lt := (pcrBase c).isLt
    have lt' := d.isLt
    refine congrArg some ?_
    omega
  · rw [if_neg pcr, if_neg pcr, Option.map_none]

end

end Sys2Proof.Machine

namespace Sys2Proof.Certificates.Slice0

open Sys2Proof.Machine

/-- Settles O23: the bytes that `setTimestamp` and `setPcrBase` write stand behind those that say where the fields are, so the fields
of the rebased cell are those of the cell, and each holds what was written into it. -/
theorem rebasingMovesEveryTimestamp : Obligations.RebasingMovesEveryTimestamp := by
  intro c d len out inStamp marked
  refine ⟨(length_rebase d).trans len, ?_, readPts_rebase d len, readDts_rebase d len, readPcr_rebase d len,
    fun i notPts notDts notPcr => ?_, fun p pts => ?_, fun p dts => ?_, fun _ => cellByte_rebase_pcr_low d len, fun noPts noPcr => ?_⟩
  · refine List.ext_getElem (by simp [out, length_rebase]) fun i lt lt' => ?_
    rw [List.length_take] at lt lt'
    rw [List.getElem_take, List.getElem_take, ← cellByte_of_lt, ← cellByte_of_lt]
    exact cellByte_rebase_head d (by omega)
  · refine cellByte_rebase_other d (fun p pts => ?_) (fun p dts => ?_) fun pcr => ?_
    · by_contra within
      exact notPts ⟨p, pts, by omega, by omega⟩
    · by_contra within
      exact notDts ⟨p, dts, by omega, by omega⟩
    · by_contra within
      exact notPcr ⟨pcr, by omega, by omega⟩
  · obtain ⟨-, le⟩ := ptsPayload_some pts
    obtain ⟨high, marks⟩ := setTimestamp_marks (timestampAt c (p + 9) + d) (c := c) (i := p + 9) (by omega)
    refine ⟨?_, fun k isMark => ?_⟩
    · rw [← high]
      exact congrArg _ (cellByte_rebase_pts d pts (by omega) (by omega))
    · rw [← marks k isMark]
      exact congrArg (fun b => b.getLsbD 0) (cellByte_rebase_pts d pts (j := p + 9 + k) (by omega) (by omega))
  · obtain ⟨-, le⟩ := dtsPayload_some dts
    obtain ⟨high, marks⟩ := setTimestamp_marks (timestampAt c (p + 14) + d) (c := c) (i := p + 14) (by omega)
    refine ⟨?_, fun k isMark => ?_⟩
    · rw [← high]
      exact congrArg _ (cellByte_rebase_dts d len dts (by omega) (by omega))
    · rw [← marks k isMark]
      exact congrArg (fun b => b.getLsbD 0) (cellByte_rebase_dts d len dts (j := p + 14 + k) (by omega) (by omega))
  · have pts : ptsPayload c = none := by simpa [readPts] using noPts
    have pcr : ¬ pcrReadable c = true := fun yes => by simp [readPcr, yes] at noPcr
    exact (if_neg pcr).trans (rebaseStamps_none d pts)

end Sys2Proof.Certificates.Slice0

namespace Sys2Proof.Machine

/-! ## The tests of CHANNEL_SET (R39) -/

theorem ChannelConfig.valid_iff (g : ChannelConfig) : g.valid = true ↔ g.roles.lawful ∧ ∀ p, g.cuePid = some p → p ≤ 8190 := by
  rw [ChannelConfig.valid, Bool.and_eq_true, RoleMap.valid_iff]
  cases g.cuePid <;> simp

theorem pidField_eq_some {v p : Nat} : pidField v = some p ↔ v ≠ 0xFFFF ∧ v = p := by
  unfold pidField
  split <;> simp [*]

section
variable {s : State} {c : Fin 32} {t : Ticket} {f : ChannelSetFields}

theorem State.channelSet_range (range : 31 < f.channel) : s.channelSet t f = s.respond t.seq 1 .refusedRange 0 t.slot :=
  dif_neg (by omega)

theorem State.channelSet_disable (isChannel : f.channel = c) (disable : f.enable = 0) :
    s.channelSet t f = (if (s.chan c).state = .off then s else s.disableChannel c).respond t.seq 1 .done 0 t.slot := by
  have lt : f.channel < 32 := by omega
  have same : (⟨f.channel, lt⟩ : Fin 32) = c := Fin.ext isChannel
  simp only [State.channelSet, lt, dif_pos, disable, if_true, same]

theorem State.channelSet_enable (isChannel : f.channel = c) (enable : f.enable ≠ 0) : s.channelSet t f = s.channelEnable c t f := by
  have lt : f.channel < 32 := by omega
  have same : (⟨f.channel, lt⟩ : Fin 32) = c := Fin.ext isChannel
  simp only [State.channelSet, lt, dif_pos, enable, if_false, same]

theorem State.channelEnable_state (notOff : (s.chan c).state ≠ .off) (notNetwork : (s.chan c).state ≠ .network) :
    s.channelEnable c t f = s.respond t.seq 1 .refusedState 0 t.slot :=
  if_pos ⟨notOff, notNetwork⟩

variable (state : (s.chan c).state = .off ∨ (s.chan c).state = .network)
include state

theorem State.channelEnable_ring (noRing : s.channelRing c = none) :
    s.channelEnable c t f = s.respond t.seq 1 .refusedRange 0 t.slot := by
  refine (if_neg fun both => state.elim both.1 both.2).trans (if_pos ?_)
  rw [noRing, Option.isNone_none]

theorem State.channelEnable_policy {ring : Ring} (hasRing : s.channelRing c = some ring) (policy : FullPolicy.ofCode f.policy = none) :
    s.channelEnable c t f = s.respond t.seq 1 .refusedRange 0 t.slot := by
  refine (if_neg fun both => state.elim both.1 both.2).trans ((if_neg ?_).trans ?_)
  · rw [hasRing]
    exact Bool.false_ne_true
  · simp only [policy]

theorem State.channelEnable_config {ring : Ring} (hasRing : s.channelRing c = some ring) {policy : FullPolicy}
    (isPolicy : FullPolicy.ofCode f.policy = some policy) : s.channelEnable c t f =
      if (channelConfigOf f policy).valid = true then
        (if (s.chan c).state = .off then s.enableChannel c (channelConfigOf f policy)
          else s.reconfigure c (channelConfigOf f policy)).respond t.seq 1 .done 0 t.slot
      else s.respond t.seq 1 .refusedRange 0 t.slot := by
  refine (if_neg fun both => state.elim both.1 both.2).trans ((if_neg ?_).trans ?_)
  · rw [hasRing]
    exact Bool.false_ne_true
  · simp only [isPolicy]
    cases (channelConfigOf f policy).valid <;> rfl

end

theorem FullPolicy.ofCode_none {n : Nat} (h : 1 < n) : FullPolicy.ofCode n = none := by
  obtain ⟨k, rfl⟩ : ∃ k, n = k + 2 := ⟨n - 2, by omega⟩
  rfl

theorem FullPolicy.exists_ofCode {n : Nat} (h : n ≤ 1) : ∃ policy, FullPolicy.ofCode n = some policy := by
  obtain rfl | rfl : n = 0 ∨ n = 1 := by omega
  · exact ⟨.keep, rfl⟩
  · exact ⟨.earliest, rfl⟩

/-- The PIDs fail their test when VIDEO is absent, a PID is too large, or two roles share one (R33, R39). -/
theorem channelConfigOf_invalid {f : ChannelSetFields} {policy : FullPolicy}
    (bad : (roleMapOf f.pids)[(0 : Fin 6)] = none ∨
      (∃ (i : Fin 6) (p : Nat), (roleMapOf f.pids)[i] = some p ∧
        (8190 < p ∨ ∃ j : Fin 6, j ≠ i ∧ (roleMapOf f.pids)[j] = some p)) ∨ (f.cuePid ≠ 0xFFFF ∧ 8190 < f.cuePid)) :
    ¬ (channelConfigOf f policy).valid = true := by
  rw [ChannelConfig.valid_iff]
  rintro ⟨⟨video, small, apart⟩, cue⟩
  rcases bad with noVideo | ⟨i, p, is, large | ⟨j, ne, shared⟩⟩ | ⟨present, large⟩
  · exact video noVideo
  · exact absurd (small i p is) (by omega)
  · exact ne (apart j i p shared is)
  · exact absurd (cue f.cuePid (pidField_eq_some.2 ⟨present, rfl⟩)) (by omega)

theorem exec_channelSet_inHand {s : State} {seq slot : Nat} {f : ChannelSetFields} (h : s.inHand (.channelSet seq slot f)) :
    exec (.channelSet seq slot f) s = .next (s.taken.channelSet ⟨seq, slot⟩ f) :=
  congrArg Host.Outcome.next (State.takeDirective_of _ h)

/-! ## The disable (R42, R43) -/

/-- A channel that is disabled loses its events, its windows and its avail, whatever they were. -/
theorem Channel.disabled_eq (ch : Channel) : ch.disabled = { Channel.reset with
    config := ch.config
    counts := ch.counts
    malformedIngest := ch.malformedIngest
    inHand := ch.inHand.map fun r => { r with orphaned := true }
    ready := ch.ready } := rfl

/-- A retirement, with its changes of the channel made after the record. -/
theorem State.retire_stores (s : State) (c : Fin 32) (e : AvailEvent) (why : MissReason) (second : Nat) : s.retire c e why second =
    (s.record ⟨.eventMissed, c, why.code, e.event, e.time.toNat, second⟩).stores (s.channels.set c ((s.chan c).retired e.event))
      s.windows s.clips := by
  rw [State.retire]
  exact State.mapChan_record_mapChan ..

/-- The channel once events of its queue are retired, one after another. -/
def Channel.retiredAll (ch : Channel) (q : List AvailEvent) : Channel :=
  q.foldl (fun ch e => ch.retired e.event) ch

theorem State.foldl_retire (c : Fin 32) (why : MissReason) (q : List AvailEvent) (s : State) :
    q.foldl (fun s e => s.retire c e why 0) s =
      (s.recordAll (q.map fun e => ⟨.eventMissed, c, why.code, e.event, e.time.toNat, 0⟩)).stores
        (s.channels.set c ((s.chan c).retiredAll q)) s.windows s.clips := by
  induction q generalizing s with
  | nil =>
    have same : s.channels.set c (s.chan c) = s.channels := Vector.set_getElem_self ..
    rw [Channel.retiredAll, List.foldl_nil, List.foldl_nil, same]
    rfl
  | cons e q ih =>
    rw [List.foldl_cons, ih, State.retire_stores]
    simp only [State.stores, State.recordAll_stores, State.chan, Fin.getElem_fin, Vector.getElem_set_self, Vector.set_set]
    rfl

/-- What a disable keeps of a channel, and what the end of its windows looks at, no retirement changes. -/
theorem Channel.retiredAll_keeps (q : List AvailEvent) (ch : Channel) :
    (ch.retiredAll q).disabled = ch.disabled ∧ (ch.retiredAll q).windows = ch.windows ∧ (ch.retiredAll q).netPts = ch.netPts := by
  induction q generalizing ch with
  | nil => exact ⟨rfl, rfl, rfl⟩
  | cons e q ih => exact ih (ch.retired e.event)

theorem Channel.availOver_keeps (ch : Channel) : ch.availOver.disabled = ch.disabled ∧ ch.availOver.windows = ch.windows ∧
    ch.availOver.netPts = ch.netPts ∧ ch.availOver.queue = ch.queue := by
  unfold Channel.availOver
  cases ch.avail <;> exact ⟨rfl, rfl, rfl, rfl⟩

/-- The WINDOW_END of a window that is removed, DISABLED (R133). -/
def Window.disabledRecord (w : Window) (c : Fin 32) (id : Fin 48) (n : Nat) : Record :=
  ⟨.windowEnd, c, 4, id, n, w.stop.toNat⟩

theorem State.dropListed_eq {s : State} {id : Fin 48} {w : Window} (record : s.window id = some w) : s.dropListed id =
    (s.record (w.disabledRecord w.channel id ((s.chan w.channel).netPts.getD 0).toNat)).stores
      (s.channels.set w.channel ((s.chan w.channel).forgetWindow id)) (s.dropListed id).windows s.clips := by
  have removed : s.dropListed id = s.removeWindow id w .disabled := by simp only [State.dropListed, record]
  rw [removed, State.removeWindow_eq, State.record_setWindow_mapChan]
  rfl

/-- The WINDOW_ENDs of windows that are removed, one after another. -/
def State.disabledRecords (s : State) (c : Fin 32) (l : List (Fin 48)) : List Record :=
  l.filterMap fun id => (s.window id).map fun w => w.disabledRecord c id ((s.chan c).netPts.getD 0).toNat

theorem State.foldl_dropListed_eq {c : Fin 32} (l : List (Fin 48)) (s : State) (nodup : l.Nodup)
    (own : ∀ id ∈ l, ∃ w, s.window id = some w ∧ w.channel = c) : l.foldl State.dropListed s =
      (s.recordAll (s.disabledRecords c l)).stores (s.channels.set c (l.foldl Channel.forgetWindow (s.chan c)))
        (l.foldl State.dropListed s).windows s.clips := by
  induction l generalizing s with
  | nil =>
    have same : s.channels.set c (s.chan c) = s.channels := Vector.set_getElem_self ..
    rw [List.foldl_nil, List.foldl_nil, same]
    rfl
  | cons id l ih =>
    obtain ⟨w, record, rfl⟩ := own id (List.mem_cons_self ..)
    obtain ⟨fresh, nodup⟩ := List.nodup_cons.1 nodup
    have dropped := State.dropListed_eq record
    have others : ∀ k ∈ l, (s.dropListed id).window k = s.window k := fun k mem => by
      have ne : k ≠ id := fun same => fresh (same ▸ mem)
      rw [State.dropListed_window, if_neg ne]
    have chan : (s.dropListed id).chan w.channel = (s.chan w.channel).forgetWindow id := by
      rw [dropped]
      exact Vector.getElem_set_self ..
    have records : (s.dropListed id).disabledRecords w.channel l = s.disabledRecords w.channel l := by
      refine List.filterMap_congr fun k mem => ?_
      rw [others k mem, chan]
      rfl
    have first : s.disabledRecords w.channel (id :: l) =
        w.disabledRecord w.channel id ((s.chan w.channel).netPts.getD 0).toNat :: s.disabledRecords w.channel l :=
      List.filterMap_cons_some (by rw [record]; rfl)
    have rest := ih (s.dropListed id) nodup fun k mem => by
      rw [others k mem]
      exact own k (.tail _ mem)
    rw [records, chan] at rest
    rw [List.foldl_cons, first]
    refine rest.trans ?_
    rw [dropped]
    simp only [State.stores, State.recordAll_stores, Vector.set_set, List.foldl_cons]
    rfl

theorem foldl_forgetWindow_disabled (l : List (Fin 48)) (ch : Channel) : (l.foldl Channel.forgetWindow ch).disabled = ch.disabled := by
  induction l generalizing ch with
  | nil => rfl
  | cons id l ih => exact ih _

end Sys2Proof.Machine

namespace Sys2Proof.Machine

section
variable {s : State} {c : Fin 32}

/-- R42: the disable of a playing channel begins with the end of its clip and its avail. -/
theorem State.disable_cuts (s : State) (c : Fin 32) :
    (if (s.chan c).state = .insert then s.abandon c .cut .disabled else s) =
      (s.recordAll (s.cutRecords c 9)).stores (s.channels.set c (s.chan c).beforeAlert) s.windows (s.releasedClips c) := by
  by_cases insert : (s.chan c).state = .insert
  · rw [if_pos insert, State.abandon_eq, State.releasedClips_insert insert, State.cutRecords_insert insert, Channel.beforeAlert,
      if_pos insert]
    rfl
  · have records : s.cutRecords c 9 = [] := if_neg insert
    have same : s.channels.set c (s.chan c) = s.channels := Vector.set_getElem_self ..
    rw [if_neg insert, State.releasedClips_other insert, records, Channel.beforeAlert, if_neg insert, same]
    rfl

theorem Channel.beforeAlert_keeps (ch : Channel) : ch.beforeAlert.disabled = ch.disabled ∧ ch.beforeAlert.windows = ch.windows ∧
    ch.beforeAlert.netPts = ch.netPts ∧ ch.beforeAlert.queue = ch.queue := by
  unfold Channel.beforeAlert
  split
  · exact ch.availOver_keeps
  · exact ⟨rfl, rfl, rfl, rfl⟩

/-- Of the windows there remain those of the other channels. -/
theorem State.foldl_dropListed_windows {l : List (Fin 48)}
    (named : ∀ id : Fin 48, id ∈ l ↔ ∃ w, s.window id = some w ∧ w.channel = c) :
    (l.foldl State.dropListed s).windows = Vector.ofFn fun id => (s.window id).filter fun w => w.channel ≠ c := by
  refine Vector.ext fun i lt => ?_
  have dropped := (State.foldl_dropListed l s c).1 ⟨i, lt⟩
  rw [Vector.getElem_ofFn]
  refine dropped.trans ?_
  cases record : s.window ⟨i, lt⟩ with
  | none =>
    rw [Option.filter_none]
    exact ite_self _
  | some w =>
    have member : (⟨i, lt⟩ : Fin 48) ∈ l ↔ w.channel = c := by
      rw [named ⟨i, lt⟩, record]
      simp
    by_cases own : w.channel = c
    · rw [if_pos (member.2 own), Option.filter_some_neg (by simp [own])]
    · rw [if_neg fun mem => own (member.1 mem), Option.filter_some_pos (by simp [own])]

/-- R42, R103: the records of the avail and of the queue. -/
def State.disableMissed (s : State) (c : Fin 32) : List Record :=
  s.cutRecords c 9 ++ (s.chan c).queue.map fun ev => ⟨.eventMissed, c, 8, ev.event, ev.time.toNat, 0⟩

/-- R42: the avail is over, and the queue is retired. -/
theorem State.disable_retires (s : State) (c : Fin 32) :
    (if (s.chan c).state = .insert then s.abandon c .cut .disabled else s).retireQueue c = (s.recordAll (s.disableMissed c)).stores
      (s.channels.set c ((s.chan c).beforeAlert.retiredAll (s.chan c).queue)) s.windows (s.releasedClips c) := by
  obtain ⟨-, -, -, queue⟩ := (s.chan c).beforeAlert_keeps
  have cut := State.disable_cuts s c
  have chan : (if (s.chan c).state = .insert then s.abandon c .cut .disabled else s).chan c = (s.chan c).beforeAlert := by
    rw [cut]
    exact Vector.getElem_set_self ..
  rw [State.retireQueue, chan, queue, State.foldl_retire, chan, cut, State.disableMissed, State.recordAll_append]
  simp only [State.stores, State.recordAll_stores, Vector.set_set]
  rfl

/-- R42, R43: the disable of a channel, whole. -/
theorem State.disableChannel_eq (listed : s.windowsListed) : s.disableChannel c =
    (s.recordAll (s.disableMissed c ++ s.disabledRecords c (s.chan c).windows)).stores (s.channels.set c (s.chan c).disabled)
      (Vector.ofFn fun id => (s.window id).filter fun w => w.channel ≠ c) (s.releasedClips c) := by
  obtain ⟨disabledFirst, windowsFirst, ptsFirst, -⟩ := (s.chan c).beforeAlert_keeps
  obtain ⟨disabledAll, windowsAll, ptsAll⟩ := (s.chan c).beforeAlert.retiredAll_keeps (s.chan c).queue
  obtain ⟨nodup, named, -⟩ := listed c
  have retires := State.disable_retires s c
  rw [State.disableChannel]
  generalize (if (s.chan c).state = .insert then s.abandon c .cut .disabled else s).retireQueue c = u at retires ⊢
  have chan : u.chan c = (s.chan c).beforeAlert.retiredAll (s.chan c).queue := by
    rw [retires]
    exact Vector.getElem_set_self ..
  have window (id : Fin 48) : u.window id = s.window id := by
    rw [retires]
    rfl
  have records : u.disabledRecords c (s.chan c).windows = s.disabledRecords c (s.chan c).windows := by
    simp only [State.disabledRecords, window, chan, ptsAll, ptsFirst]
  have windows := State.foldl_dropListed_windows (s := u) (c := c) (l := (s.chan c).windows) fun id => by
    rw [window]
    exact named id
  have removes := State.foldl_dropListed_eq (s.chan c).windows u nodup fun id mem => by
    rw [window]
    exact (named id).1 mem
  simp only [window] at windows
  rw [State.removeWindows_eq, chan, windowsAll, windowsFirst, removes, windows, records, chan, retires, State.recordAll_append]
  simp only [State.mapChan, State.stores, State.recordAll_stores, Fin.getElem_fin, Vector.getElem_set_self, Vector.set_set,
    foldl_forgetWindow_disabled, disabledAll, disabledFirst]

theorem State.releasedClips_ofFn (s : State) (c : Fin 32) : s.releasedClips c =
    Vector.ofFn fun n => if (s.chan c).playsClip n = true then { s.clip n with plays := (s.clip n).plays - 1 } else s.clip n :=
  Vector.ext fun i lt => by
    rw [Vector.getElem_ofFn]
    exact State.releasedClips_get s ⟨i, lt⟩

end

end Sys2Proof.Machine

namespace Sys2Proof.Certificates.Slice0

open Sys2Proof.Machine

/-- Settles O28: the tests of `State.channelSet` and `State.channelEnable` in their order, and the disable by its equation. -/
theorem channelSetRefusesOrDisables : Obligations.ChannelSetRefusesOrDisables := by
  intro s seq slot f inHand
  have run := exec_channelSet_inHand inHand
  have gives {u : State} (h : s.taken.channelSet ⟨seq, slot⟩ f = u) : exec (.channelSet seq slot f) s = .next u :=
    run.trans (congrArg Host.Outcome.next h)
  refine ⟨fun range => gives (State.channelSet_range (s := s.taken) (t := ⟨seq, slot⟩) range), fun c isChannel => ?_⟩
  have disables := State.channelSet_disable (s := s.taken) (t := ⟨seq, slot⟩) isChannel
  have enables := State.channelSet_enable (s := s.taken) (t := ⟨seq, slot⟩) isChannel
  refine ⟨fun disable off => ?_, fun enable => ⟨fun notOff notNetwork => ?_, fun state bad => ?_⟩, fun disable on listed => ?_⟩
  · have done := disables disable
    rw [State.chan_taken, if_pos off] at done
    exact gives done
  · exact gives ((enables enable).trans (State.channelEnable_state (s := s.taken) (t := ⟨seq, slot⟩) notOff notNetwork))
  · refine gives ((enables enable).trans ?_)
    cases ring : s.channelRing c with
    | none => exact State.channelEnable_ring (s := s.taken) (t := ⟨seq, slot⟩) state ring
    | some r =>
      by_cases high : 1 < f.policy
      · exact State.channelEnable_policy (s := s.taken) (t := ⟨seq, slot⟩) state ring (FullPolicy.ofCode_none high)
      · obtain ⟨policy, isPolicy⟩ := FullPolicy.exists_ofCode (Nat.not_lt.1 high)
        rw [State.channelEnable_config (s := s.taken) (t := ⟨seq, slot⟩) state ring isPolicy]
        refine if_neg (channelConfigOf_invalid ((bad.resolve_left ?_).resolve_left high))
        rw [ring]
        exact Option.some_ne_none r
  · intro missed removed
    have done := disables disable
    rw [State.chan_taken, if_neg on, State.disableChannel_eq (s := s.taken) listed, State.releasedClips_ofFn] at done
    exact gives done

end Sys2Proof.Certificates.Slice0

namespace Sys2Proof.Machine

/-! ## The configuration of an enable (R39) -/

theorem limitField_eq {dflt lo hi v n : Nat} (h : if v = 0xFFFFFFFF then n = dflt else n = max lo (min hi v)) :
    limitField dflt lo hi v = n := by
  unfold limitField clamp
  split at h <;> next is => simp only [is, if_true, if_false, h]

section
variable {s : State} {c : Fin 32} {g : ChannelConfig}

/-! ## Enabling (R40, R161) -/

theorem State.enableChannel_network (free : ∀ x, s.alerts.current = some x → ∀ set, x.target = some set → set.getLsbD c = false) :
    s.enableChannel c g = s.mapChan c fun ch => ch.enableWith g := by
  unfold State.enableChannel
  have alerts : (s.mapChan c fun ch => ch.enableWith g).alerts = s.alerts := rfl
  simp only [alerts]
  split
  · next x current =>
    refine if_neg ?_
    cases target : x.target with
    | none => simp [maskHas]
    | some set =>
      rw [Option.getD_some, maskHas, free x current set target]
      exact Bool.false_ne_true
  · rfl

theorem State.enableChannel_alert {x : AlertContext} {set : ChannelMask} (current : s.alerts.current = some x) (target : x.target = some set)
    (holds : set.getLsbD c = true) : s.enableChannel c g =
      ((s.mapChan c fun ch => ({ ch.enableWith g with state := .alert } : Channel).cursorOn (alertFeed x.feed)
        (s.feed (alertFeed x.feed)).latest)).record (x.starts c 3) := by
  have member : maskHas (x.target.getD 0) c = true := by rwa [target, Option.getD_some]
  have alerts : (s.mapChan c fun ch => ch.enableWith g).alerts = s.alerts := rfl
  unfold State.enableChannel
  simp only [alerts, current, member, if_true]
  rw [State.enableIntoAlert, AlertContext.startRecord_eq, State.mapChan_mapChan, State.placeCursor_immediate, State.mapChan_mapChan]
  rfl

/-! ## Reconfiguring (R41) -/

/-- The channel with its new configuration. -/
def Channel.reconfigured (ch : Channel) (g : ChannelConfig) : Channel :=
  { ch with config := g, continuity := ch.keepContinuity g }

theorem State.reconfigure_same (same : (s.chan c).config.roles[(0 : Fin 6)] = g.roles[(0 : Fin 6)]) :
    s.reconfigure c g = s.mapChan c fun ch => ch.reconfigured g :=
  if_pos same

theorem State.reconfigure_other (other : (s.chan c).config.roles[(0 : Fin 6)] ≠ g.roles[(0 : Fin 6)]) :
    s.reconfigure c g = (s.mapChan c fun ch => ch.reconfigured g).changeVideo c :=
  if_neg other

theorem State.changeVideo_eq (s : State) (c : Fin 32) : s.changeVideo c =
    if (s.chan c).clock.status = .steady then
      (s.mapChan c Channel.forgetVideo).record ⟨.clockUnsteady, c, 3, 0, (s.chan c).clock.lastBase, 0⟩
    else s.mapChan c Channel.forgetVideo := rfl

theorem State.reconfigure_forgets (other : (s.chan c).config.roles[(0 : Fin 6)] ≠ g.roles[(0 : Fin 6)]) : s.reconfigure c g =
    if (s.chan c).clock.status = .steady then
      (s.mapChan c fun ch => (ch.reconfigured g).forgetVideo).record ⟨.clockUnsteady, c, 3, 0, (s.chan c).clock.lastBase, 0⟩
    else s.mapChan c fun ch => (ch.reconfigured g).forgetVideo := by
  have clock : ((s.mapChan c fun ch => ch.reconfigured g).chan c).clock = (s.chan c).clock := by
    rw [State.chan_mapChan_self]
    rfl
  rw [State.reconfigure_other other, State.changeVideo_eq, clock, State.mapChan_mapChan]
  rfl

end

end Sys2Proof.Machine

namespace Sys2Proof.Certificates.Slice0

open Sys2Proof.Machine

/-- Settles O27: the configuration of the directive is `config` and passes its tests, so the channel is enabled or reconfigured with
it, by the equations of `State.enableChannel` and `State.reconfigure`. -/
theorem channelSetEnablesOrReconfigures : Obligations.ChannelSetEnablesOrReconfigures := by
  intro s seq slot f c ring policy config inHand isChannel enable hasRing isPolicy policyIs roles cue late longest nulls clock video
    lawful cueSmall started kept
  have ofCode : FullPolicy.ofCode f.policy = some policy := by
    rcases isPolicy with ⟨code, rfl⟩ | ⟨code, rfl⟩ <;> rw [code] <;> rfl
  have made : channelConfigOf f policy = config := by
    rw [channelConfigOf, limitField_eq late, limitField_eq longest, limitField_eq nulls, limitField_eq clock, ← roles, ← policyIs,
      pidField, ← cue]
  have valid : config.valid = true := by
    rw [ChannelConfig.valid_iff, roles]
    exact ⟨⟨Option.isSome_iff_ne_none.1 video, fun i p is => (lawful i p is).1, fun i j p is same => (lawful j p same).2 i is⟩,
      cueSmall⟩
  have run (state : (s.chan c).state = .off ∨ (s.chan c).state = .network) : exec (.channelSet seq slot f) s = .next
      ((if (s.chan c).state = .off then s.taken.enableChannel c config else s.taken.reconfigure c config).respond seq 1 .done 0
        slot) := by
    have enabled := State.channelEnable_config (s := s.taken) (t := ⟨seq, slot⟩) state hasRing ofCode
    rw [made, if_pos valid] at enabled
    exact (exec_channelSet_inHand inHand).trans (congrArg Host.Outcome.next
      ((State.channelSet_enable (s := s.taken) (t := ⟨seq, slot⟩) isChannel enable).trans enabled))
  have reconfigures (network : (s.chan c).state = .network) : exec (.channelSet seq slot f) s = .next
      ((s.taken.reconfigure c config).respond seq 1 .done 0 slot) := by
    have notOff : (s.chan c).state ≠ .off := by
      rw [network]
      decide
    have all := run (.inr network)
    rwa [if_neg notOff] at all
  have enables (off : (s.chan c).state = .off) : exec (.channelSet seq slot f) s = .next
      ((s.taken.enableChannel c config).respond seq 1 .done 0 slot) := by
    have all := run (.inl off)
    rwa [if_pos off] at all
  refine ⟨fun network same => ?_, fun network other => ?_, fun off free => ?_, fun x set off current target holds => ?_⟩
  · have all := reconfigures network
    rw [State.reconfigure_same (s := s.taken) same] at all
    exact all
  · intro forgotten
    have all := reconfigures network
    rw [State.reconfigure_forgets (s := s.taken) other] at all
    refine ⟨fun notSteady => ?_, fun total stamp steady last => ?_⟩
    · rw [State.chan_taken, if_neg notSteady] at all
      exact all
    · have base : (s.chan c).clock.lastBase = total / 300 := by simp only [ClockTracker.lastBase, last]
      rw [State.chan_taken, if_pos steady, base] at all
      exact all
  · have all := enables off
    rw [State.enableChannel_network (s := s.taken) free] at all
    exact all
  · intro latest alerted
    have all := enables off
    rw [State.enableChannel_alert (s := s.taken) current target holds] at all
    refine ⟨all, fun e p known => ?_, fun unknown => ?_⟩
    · have placed : alerted = ({ started with state := .alert } : Channel).cursorOn (alertFeed x.feed) (some (e, p)) := by
        rw [← known]
      rw [placed]
      exact ⟨rfl, sub_self p⟩
    · have waits : alerted = ({ started with state := .alert } : Channel).cursorOn (alertFeed x.feed) none := by
        rw [← unknown]
      rw [waits]
      rfl

end Sys2Proof.Certificates.Slice0

namespace Sys2Proof.Machine

/-! ## Reads answered (R23, R49) -/

theorem State.entry_id {s : State} {id : Nat} {e : Entry} (h : s.entry id = some e) : e.id = id := by
  simpa using List.find?_some h

section
variable {s : State} {c : Fin 32} {id : Nat} {e : Entry}

/-- A read is answered with a cell that leaves its channel as `ch`. -/
theorem State.answerCell_eq (h : s.entry id = some e) (ch : Channel) (out : List Byte) :
    (s.mapChan c fun _ => ch).answerCell id out = s.readAnswered c ch e out := by
  have entry : (s.mapChan c fun _ => ch).entry id = some e := h
  rw [State.answerCell, State.answer_of_entry entry, ← State.entry_id h]
  simp only [tag_bne]
  rfl

theorem State.answerNull_eq (h : s.entry id = some e) (network : List Byte) :
    s.answerNull c id network = s.readAnswered c (s.chan c).nulled e (nullCell network) :=
  State.answerCell_eq h (s.chan c).nulled (nullCell network)

theorem State.readAnswered_mapChan (f : Channel → Channel) (ch : Channel) (out : List Byte) :
    (s.mapChan c f).readAnswered c ch e out = s.readAnswered c ch e out := by
  simp only [State.readAnswered, State.mapChan, Vector.set_set]

theorem State.answerNull_mapChan (h : s.entry id = some e) (f : Channel → Channel) (network : List Byte) :
    (s.mapChan c f).answerNull c id network = s.readAnswered c (f (s.chan c)).nulled e (nullCell network) := by
  have entry : (s.mapChan c f).entry id = some e := h
  rw [State.answerNull_eq entry, State.chan_mapChan_self, State.readAnswered_mapChan]

theorem State.chan_readAnswered (ch : Channel) (out : List Byte) : (s.readAnswered c ch e out).chan c = ch :=
  Vector.getElem_set_self ..

/-- A read is answered, and its channel stays as it is. -/
theorem State.answerCell_stays (h : s.entry id = some e) (out : List Byte) : s.answerCell id out = s.readAnswered c (s.chan c) e out := by
  have same : (s.mapChan c fun _ => s.chan c) = s := s.mapChan_self c
  rw [← State.answerCell_eq h, same]

end

/-! ## Source cells (R50, R51, R57) -/

theorem Channel.emitSource_none {ch : Channel} {role : Option Role} {cell network : List Byte}
    (h : wellFormed cell = false ∨ role = none ∨ ∃ q, role = some q ∧ ch.pidOf q = none) : ch.emitSource role cell network = none := by
  unfold Channel.emitSource
  rcases h with malformed | rfl | ⟨q, rfl, absent⟩
  · rw [malformed]
    rfl
  · exact ite_self _
  · dsimp only
    rw [absent]
    exact ite_self _

theorem Channel.emitSource_some {ch : Channel} {cell network : List Byte} {q : Role} {pid : Nat} (formed : wellFormed cell = true)
    (known : ch.pidOf q = some pid) : ch.emitSource (some q) cell network =
      some ((ch.emit q (rebase (setPid cell pid) ch.delta)).1,
        network.take 4 ++ (ch.emit q (rebase (setPid cell pid) ch.delta)).2.drop 4) := by
  simp only [Channel.emitSource, formed, known, Bool.not_true, Bool.false_eq_true, if_false, withStamp]

/-- The role of a PID that a source cell of this kind comes on (R57). -/
def State.sourceRole (s : State) : SourceKind → List Byte → Option Role
  | .clip n, cell => (s.clip n).roleOf (cellPid cell)
  | .feed f, cell => roleOfPid (s.feed f).roles (cellPid cell)

/-- What becomes of the read in hand when its source cell arrives (R50, R51). -/
def State.sourceCell (s : State) (c : Fin 32) (r : ReadInHand) (a : Answer) : SourceKind → State
  | .clip n => s.clipCell c n r a
  | .feed f => s.feedCell c f r a

/-- The command by which a source cell of this kind arrives. -/
def SourceKind.arrival (id : Nat) (a : Answer) : SourceKind → Instr
  | .clip _ => .clipCellArrival id a
  | .feed _ => .feedCellArrival id a

section
variable {s : State} {c : Fin 32} {r : ReadInHand} {a : Answer} {kind : SourceKind}

theorem exec_arrival {x : Txn} (routed : s.bus.issuedTxn x.id = some x) (owner : x.owner = .sourceRead c kind)
    (hand : (s.chan c).inHand = some r) (waits : r.source = x.id) :
    exec (kind.arrival x.id a) s = .next ((s.left x).sourceCell c r a kind) := by
  have hand' : (s.left x).waitsFor c x.id = some r := by
    have known : ((s.left x).chan c).inHand = some r := hand
    rw [State.waitsFor, known]
    exact Option.filter_some_pos (by rw [waits]; exact beq_self_eq_true _)
  cases kind with
  | clip n =>
    refine congrArg Host.Outcome.next ((State.onResponse_self _ routed owner (by simp)).trans ?_)
    simp only [owner, State.completeTxn_eq_left, hand']
    rfl
  | feed f =>
    refine congrArg Host.Outcome.next ((State.onResponse_self _ routed owner (by simp)).trans ?_)
    simp only [owner, State.completeTxn_eq_left, hand']
    rfl

/-- The channel without its read in hand. -/
def State.handed (s : State) (c : Fin 32) : State :=
  s.mapChan c fun ch => { ch with inHand := none }

theorem State.chan_handed (s : State) (c : Fin 32) : (s.handed c).chan c = { s.chan c with inHand := none } :=
  State.chan_mapChan_self ..

theorem State.sourceCell_orphaned (orphaned : r.orphaned = true) :
    s.sourceCell c r a kind = (s.handed c).answerNull c r.entry r.cell := by
  cases kind <;> exact if_pos orphaned

theorem State.sourceCell_ok {cell : List Byte} (mine : r.orphaned = false) :
    s.sourceCell c r (.ok cell) kind = (s.handed c).answerSource c r (s.sourceRole kind cell) cell := by
  have notOrphaned : ¬ r.orphaned = true := by simp [mine]
  cases kind <;> exact if_neg notOrphaned

/-- The channel once an ERROR on a feed read has been counted (R51). -/
def Channel.misread (ch : Channel) : Channel :=
  { ch with counts := { ch.counts with readErrors := sat ch.counts.readErrors } }

theorem State.feedCell_error {f : Fin 6} (mine : r.orphaned = false) : s.sourceCell c r .error (.feed f) =
    ((s.handed c).mapChan c Channel.misread).answerNull c r.entry r.cell :=
  if_neg (by simp [mine])

theorem State.clipCell_error {n : Fin 64} (mine : r.orphaned = false) : s.sourceCell c r .error (.clip n) =
    (((s.handed c).answerNull c r.entry r.cell).abandon c .memoryError .memoryError).mapChan c Channel.toReturnWait :=
  if_neg (by simp [mine])

variable {e : Entry}

theorem State.answerSource_none (entry : s.entry r.entry = some e) {role : Option Role} {cell : List Byte}
    (h : (s.chan c).emitSource role cell r.cell = none) :
    s.answerSource c r role cell = s.readAnswered c (s.chan c).nulled e (nullCell r.cell) := by
  simp only [State.answerSource, h]
  exact State.answerNull_eq entry _

theorem State.answerSource_some (entry : s.entry r.entry = some e) {role : Option Role} {cell out : List Byte} {ch : Channel}
    (h : (s.chan c).emitSource role cell r.cell = some (ch, out)) : s.answerSource c r role cell = s.readAnswered c ch e out := by
  simp only [State.answerSource, h]
  exact State.answerCell_eq entry ch out

end

/-! ## The end of an avail between entry cells (R115) -/

theorem Channel.availOver_some {ch : Channel} {av : CurrentAvail} (h : ch.avail = some av) :
    ch.availOver = { ch with avail := none, clipAnchor := none, recent := joinRecent 4 ch.recent av.event } := by
  simp only [Channel.availOver, h]

section
variable {u : State} {c : Fin 32} {n : Fin 64} {i : Nat} {av : CurrentAvail}

theorem State.clipLeft_clip (source : (u.chan c).source = .clip n i) (code : Nat) : u.clipLeft c code =
    ([⟨.clipEnd, c, code, n, i, (u.clip n).cells⟩], u.clips.set n { u.clip n with plays := (u.clip n).plays - 1 }) := by
  simp only [State.clipLeft, source]

theorem State.availLeft_avail (avail : (u.chan c).avail = some av) (code : Nat) :
    u.availLeft c code = [av.over c code ((u.chan c).outPts.getD 0)] := by
  simp only [State.availLeft, avail]

/-- The clip is left, the avail is over, and the channel waits to return. -/
theorem State.abandon_waits (source : (u.chan c).source = .clip n i) (avail : (u.chan c).avail = some av) (clipWhy : ClipEndReason)
    (why : AvailEndReason) : (u.abandon c clipWhy why).mapChan c Channel.toReturnWait =
      (u.recordAll [⟨.clipEnd, c, clipWhy.code, n, i, (u.clip n).cells⟩, av.over c why.code ((u.chan c).outPts.getD 0)]).stores
        (u.channels.set c ({ u.chan c with
          avail := none, clipAnchor := none, recent := joinRecent 4 (u.chan c).recent av.event } : Channel).toReturnWait)
        u.windows (u.clips.set n { u.clip n with plays := (u.clip n).plays - 1 }) := by
  rw [State.abandon_eq, State.clipLeft_clip source, State.availLeft_avail avail, Channel.availOver_some avail]
  simp only [State.mapChan, State.stores, Fin.getElem_fin, Vector.getElem_set_self, Vector.set_set]
  rfl

end

end Sys2Proof.Machine

namespace Sys2Proof.Certificates.Slice0

open Sys2Proof.Machine

/-- Settles O22: the cell has come for the read in hand; an orphaned read and a cell that cannot be sent are answered with a null
cell, an ERROR on a clip read also abandons the avail, and any other cell is emitted. -/
theorem sourceCellsAreRewritten : Obligations.SourceCellsAreRewritten := by
  intro s x e c r kind a command role routed owner hand waits entry which answered nulled
  have arrival : command = kind.arrival x.id a ∧ ∀ cell, s.sourceRole kind cell = role cell := by
    rcases which with ⟨n, rfl, rfl, rfl⟩ | ⟨f, rfl, rfl, rfl⟩
    · exact ⟨rfl, fun cell => by simp only [State.sourceRole, Clip.roleOf, beq_eq_decide]⟩
    · exact ⟨rfl, fun cell => rfl⟩
  obtain ⟨rfl, roles⟩ := arrival
  have run := exec_arrival (a := a) routed owner hand waits
  have entry' : ((s.left x).handed c).entry r.entry = some e := entry
  have chan : ((s.left x).handed c).chan c = { s.chan c with inHand := none } := (s.left x).chan_handed c
  have id := State.entry_id entry
  have sent (ch : Channel) (out : List Byte) : ((s.left x).handed c).readAnswered c ch e out = answered ch out := by
    rw [State.handed, State.readAnswered_mapChan, State.readAnswered, id]
    rfl
  refine ⟨fun orphaned => ?_, fun mine isFeed isError => ?_, fun n i av mine isClip isError source avail => ?_,
    fun cell mine isOk => ?_⟩
  · rw [run, State.sourceCell_orphaned orphaned, State.answerNull_eq entry', chan, sent]
    rfl
  · obtain ⟨f, rfl⟩ := isFeed
    subst isError
    rw [run, State.feedCell_error mine, State.answerNull_mapChan entry', chan, sent]
    rfl
  · subst isClip
    subst isError
    have sentNull := State.answerNull_eq (c := c) entry' r.cell
    rw [chan, sent] at sentNull
    have chanNull : (answered nulled (nullCell r.cell)).chan c = nulled := Vector.getElem_set_self ..
    have left := State.abandon_waits (c := c) (n := n) (i := i) (av := av) (u := answered nulled (nullCell r.cell))
      (by rw [chanNull]; exact source) (by rw [chanNull]; exact avail) .memoryError .memoryError
    have all := run.trans (congrArg Host.Outcome.next (State.clipCell_error (n := n) mine))
    rw [show (((s.left x).handed c).answerNull c r.entry r.cell) = answered nulled (nullCell r.cell) from sentNull, left, chanNull] at all
    refine all.trans (congrArg Host.Outcome.next ?_)
    simp only [answered, Vector.set_set]
    rfl
  · subst isOk
    have all := run
    rw [State.sourceCell_ok mine, show (s.left x).sourceRole kind cell = role cell from roles cell] at all
    refine ⟨fun bad => ?_, fun q pid formed known pidOf => ?_⟩
    · have none_ : (((s.left x).handed c).chan c).emitSource (role cell) cell r.cell = none := by
        rw [chan]
        exact Channel.emitSource_none bad
      rw [State.answerSource_none entry' none_, chan, sent] at all
      exact all
    · have some_ := Channel.emitSource_some (ch := ((s.left x).handed c).chan c) (network := r.cell) formed
        (by rw [chan]; exact pidOf)
      rw [known, State.answerSource_some entry' some_, chan, sent] at all
      exact all

end Sys2Proof.Certificates.Slice0

namespace Sys2Proof.Machine

/-! ## TAKE_READ (R44, R45) -/

theorem exec_takeRead (s : State) (c : Fin 32) : exec (.takeRead c) s = .next (s.takeRead c) :=
  congrArg Host.Outcome.next (dif_pos c.isLt)

/-- The channel as a read of an entry cell is taken (R45). -/
def Channel.noted (ch : Channel) (rest : List ReadyRead) (n : Pts) : Channel :=
  { ch with ready := rest, netPts := some n }

theorem entryPts_wellFormed {video : Option Nat} {cell : List Byte} {n : Pts} (h : entryPts video cell = some n) :
    wellFormed cell = true := by
  unfold entryPts at h
  split at h
  · next all =>
    simp only [Bool.and_eq_true] at all
    exact all.1.1.1
  · cases h

theorem entryPts_video {video : Option Nat} {cell : List Byte} {n : Pts} (h : entryPts video cell = some n) :
    video = some (cellPid cell) := by
  unfold entryPts at h
  split at h
  · next all =>
    simp only [Bool.and_eq_true, beq_iff_eq] at all
    exact all.1.1.2
  · cases h

/-- The channel once a malformed network cell is counted (R45). -/
def Channel.counted (ch : Channel) (cell : List Byte) : Channel :=
  { ch with counts := if wellFormed cell then ch.counts else { ch.counts with malformed := sat ch.counts.malformed } }

theorem State.takeCell_noEntry {s : State} {c : Fin 32} {cell : List Byte} {id : Nat}
    (noEntry : entryPts ((s.chan c).pidOf .video) cell = none) :
    s.takeCell c id cell = (s.mapChan c fun ch => ch.counted cell).produce c id cell none := by
  have counts : (if wellFormed cell = true then s
      else s.mapChan c fun ch => { ch with counts := { ch.counts with malformed := sat ch.counts.malformed } }) =
      s.mapChan c fun ch => ch.counted cell := by
    split
    · next formed =>
      have same : ((s.chan c).counted cell) = s.chan c := by rw [Channel.counted, if_pos formed]
      exact ((s.mapChan_self c).symm.trans (congrArg (fun ch => s.mapChan c fun _ => ch) same.symm))
    · next malformed => simp only [Channel.counted, if_neg malformed]
  have video : entryPts (((s.mapChan c fun ch => ch.counted cell).chan c).pidOf .video) cell = none := by
    rw [State.chan_mapChan_self]
    exact noEntry
  simp only [State.takeCell, counts, video]

section
variable {s : State} {c : Fin 32} {r : ReadyRead} {rest : List ReadyRead}

theorem State.takeRead_waits (h : (s.chan c).inHand ≠ none ∨ (s.chan c).ready = []) : s.takeRead c = s := by
  unfold State.takeRead
  split
  · next hand ready =>
    rcases h with held | empty
    · exact absurd hand held
    · rw [empty] at ready
      cases ready
  · rfl

variable (hand : (s.chan c).inHand = none) (ready : (s.chan c).ready = r :: rest)
include hand ready

theorem State.takeRead_error (failed : r.answer = .error) :
    s.takeRead c = (s.mapChan c fun ch => { ch with ready := rest }).answer r.entry .error := by
  simp only [State.takeRead, hand, ready, failed]

variable {cell : List Byte} (answer : r.answer = .ok cell)
include answer

theorem State.takeRead_off (off : (s.chan c).state = .off) :
    s.takeRead c = (s.mapChan c fun ch => { ch with ready := rest }).answerCell r.entry cell := by
  have disabled : ((s.mapChan c fun ch => { ch with ready := rest }).chan c).enabled = false := by
    rw [State.chan_mapChan_self, Channel.enabled, off]
    rfl
  simp only [State.takeRead, hand, ready, answer, disabled]
  rfl

theorem State.takeRead_takeCell (on : (s.chan c).state ≠ .off) :
    s.takeRead c = (s.mapChan c fun ch => { ch with ready := rest }).takeCell c r.entry cell := by
  have enabled : ((s.mapChan c fun ch => { ch with ready := rest }).chan c).enabled = true := by
    rw [State.chan_mapChan_self, Channel.enabled, bne_iff_ne]
    exact on
  simp only [State.takeRead, hand, ready, answer, enabled, if_true]

/-- R45: a read whose cell is no entry cell. -/
theorem State.takeRead_noEntry (on : (s.chan c).state ≠ .off) (noEntry : entryPts ((s.chan c).pidOf .video) cell = none) :
    s.takeRead c = (s.mapChan c fun ch => ch.taking rest cell).produce c r.entry cell none := by
  have video : entryPts (((s.mapChan c fun ch => { ch with ready := rest }).chan c).pidOf .video) cell = none := by
    rw [State.chan_mapChan_self]
    exact noEntry
  rw [State.takeRead_takeCell hand ready answer on, State.takeCell_noEntry video, State.mapChan_mapChan]
  rfl

/-- R45: a read whose cell is an entry cell. -/
theorem State.takeRead_entry (on : (s.chan c).state ≠ .off) {n : Pts} (entry : entryPts ((s.chan c).pidOf .video) cell = some n) :
    s.takeRead c = ((s.mapChan c fun ch => ch.noted rest n).entryChecks c n).produce c r.entry cell (some n) := by
  have formed := entryPts_wellFormed entry
  have video : entryPts (((s.mapChan c fun ch => { ch with ready := rest }).chan c).pidOf .video) cell = some n := by
    rw [State.chan_mapChan_self]
    exact entry
  rw [State.takeRead_takeCell hand ready answer on, State.takeCell]
  simp only [formed, if_true, video, State.mapChan_mapChan]
  rfl

end

/-! ## The output of a read (R49, R50) -/

section
variable {s : State} {c : Fin 32} {id : Nat} {cell : List Byte} {at? : Option Pts}

theorem State.supply_network (source : (s.chan c).source = .network) : s.supply c id cell = s.emitNetwork c id cell := by
  simp only [State.supply, source]

theorem State.produce_network (source : (s.chan c).source = .network) : s.produce c id cell at? = s.emitNetwork c id cell := by
  simp only [State.produce, source]
  exact State.supply_network source

theorem State.produce_feed {f : Fin 6} {cursor : Option Stamp} (source : (s.chan c).source = .feed f cursor) :
    s.produce c id cell at? = s.supplyFeed c id cell f cursor := by
  simp only [State.produce, source, State.supply]

theorem State.produce_clip {n : Fin 64} {i : Nat} (source : (s.chan c).source = .clip n i) (more : i ≠ (s.clip n).cells) :
    s.produce c id cell at? = s.requestClip c id cell n i := by
  simp only [State.produce, source, more, if_false, State.supply]

theorem State.produce_exhausted {n : Fin 64} {i : Nat} (source : (s.chan c).source = .clip n i) (all : i = (s.clip n).cells) :
    s.produce c id cell at? = s.clipExhausted c id cell at? := by
  simp only [State.produce, source, all, if_true]

theorem State.produce_waits (source : (s.chan c).source = .none) (waits : (s.chan c).state = .returnWait) :
    s.produce c id cell at? = s.returnWaitRead c id cell := by
  simp only [State.produce, source, State.supply, waits, if_true]

variable {e : Entry} (entry : s.entry id = some e)
include entry

theorem State.emitNetwork_plain (plain : wellFormed cell = false ∨ roleOfPid (s.chan c).config.roles (cellPid cell) = none) :
    s.emitNetwork c id cell = s.readAnswered c (s.chan c) e cell := by
  cases known : roleOfPid (s.chan c).config.roles (cellPid cell) with
  | none =>
    simp only [State.emitNetwork, known]
    exact State.answerCell_stays entry cell
  | some q =>
    have malformed : wellFormed cell = false := plain.resolve_right (by simp [known])
    simp only [State.emitNetwork, known, malformed, Bool.false_eq_true, if_false]
    exact State.answerCell_stays entry cell

theorem State.emitNetwork_role {q : Role} (formed : wellFormed cell = true)
    (known : roleOfPid (s.chan c).config.roles (cellPid cell) = some q) : s.emitNetwork c id cell =
      s.readAnswered c ((s.chan c).emit q cell).1 e ((s.chan c).emit q cell).2 := by
  simp only [State.emitNetwork, known, formed, if_true]
  exact State.answerCell_eq entry _ _

end

/-! ## Continuity and the clock mark (R58 to R60) -/

section
variable {k : Continuity} {payload : Bool} {cc : Cc}

theorem Continuity.next_settled (h : k.pending = false) : k.next payload cc = (cc + k.k, { k with last := some (cc + k.k) }) := by
  simp only [Continuity.next, h, Bool.false_eq_true, if_false]

theorem Continuity.next_bare (h : k.pending = true) (bare : payload = false) : k.next payload cc = (k.last.getD cc, k) := by
  simp only [Continuity.next, h, bare, Bool.false_eq_true, if_false, if_true]

theorem Continuity.next_pending_last (h : k.pending = true) (bears : payload = true) {l : Cc} (last : k.last = some l) :
    k.next payload cc = (l + 1, ⟨some (l + 1), l + 1 - cc, false⟩) := by
  have sum : cc + (l + 1 - cc) = l + 1 := add_sub_cancel cc (l + 1)
  simp only [Continuity.next, h, bears, last, if_true, sum]

theorem Continuity.next_pending_first (h : k.pending = true) (bears : payload = true) (first : k.last = none) :
    k.next payload cc = (cc, ⟨some cc, 0, false⟩) := by
  have sum : cc + 0 = cc := add_zero cc
  simp only [Continuity.next, h, bears, first, if_true, sum]

end

/-- The cell takes the clock mark (R60). -/
def Channel.marks (ch : Channel) (q : Role) (cell : List Byte) : Bool :=
  q == .video && pcrReadable cell && ch.pcrMark

section
variable {cell : List Byte}

theorem cellByte_setCc_ne (v : Cc) {i : Nat} (h : i ≠ 7) : cellByte (setCc cell v) i = cellByte cell i :=
  cellByte_setByte_ne h.symm _

theorem cellByte_setCc_self (len : 7 < cell.length) (v : Cc) :
    cellByte (setCc cell v) 7 = (cellByte cell 7).extractLsb' 4 4 ++ v :=
  cellByte_setByte_self len _

theorem adaptationControl_setCc (len : 7 < cell.length) (v : Cc) : adaptationControl (setCc cell v) = adaptationControl cell := by
  rw [adaptationControl, adaptationControl, cellByte_setCc_self len, BitVec.extractLsb'_append_eq_of_le (Nat.le_refl 4)]
  refine BitVec.eq_of_getLsbD_eq fun i lt => ?_
  simp only [BitVec.getLsbD_extractLsb', lt, decide_true, Bool.true_and, Nat.zero_add, Nat.sub_self, lt.trans (by decide : 2 < 4)]

theorem pcrReadable_setCc (len : 7 < cell.length) (v : Cc) : pcrReadable (setCc cell v) = pcrReadable cell := by
  unfold pcrReadable wellFormed pcrPresent flagsRead adaptationReadable adaptationLength pcrExtension
  rw [adaptationControl_setCc len, cellByte_setCc_ne v (by decide : 4 ≠ 7), cellByte_setCc_ne v (by decide : 8 ≠ 7),
    cellByte_setCc_ne v (by decide : 9 ≠ 7), cellByte_setCc_ne v (by decide : 14 ≠ 7), cellByte_setCc_ne v (by decide : 15 ≠ 7)]

theorem cellByte_setDiscontinuity_ne {i : Nat} (h : i ≠ 9) : cellByte (setDiscontinuity cell) i = cellByte cell i :=
  cellByte_setByte_ne h.symm _

theorem cellByte_setDiscontinuity_self (len : 9 < cell.length) : cellByte (setDiscontinuity cell) 9 = cellByte cell 9 ||| 0x80#8 :=
  cellByte_setByte_self len _

theorem length_setCc (v : Cc) : (setCc cell v).length = cell.length :=
  length_setByte ..

/-! ### What is emitted -/

variable (ch : Channel) (q : Role)

/-- The counter of the output cell, and the continuity state after it. -/
def Channel.nextCc (ch : Channel) (q : Role) (cell : List Byte) : Cc × Continuity :=
  ch.continuity[q.idx].next (payloadBearing cell) (cellCc cell)

theorem Channel.emit_cell (len : cell.length = 192) : (ch.emit q cell).2 =
    if ch.marks q cell = true then setDiscontinuity (setCc cell (ch.nextCc q cell).1) else setCc cell (ch.nextCc q cell).1 := by
  have readable := pcrReadable_setCc (cell := cell) (by omega) (ch.nextCc q cell).1
  unfold Channel.emit Channel.marks
  rw [← readable]
  rfl

theorem Channel.emit_channel (len : cell.length = 192) : (ch.emit q cell).1 = { ch with
    continuity := ch.continuity.set q.idx (ch.nextCc q cell).2
    pcrMark := ch.pcrMark && !ch.marks q cell
    outPts := if q = .video then (readPts (ch.emit q cell).2).or ch.outPts else ch.outPts } := by
  have readable := pcrReadable_setCc (cell := cell) (by omega) (ch.nextCc q cell).1
  unfold Channel.emit Channel.marks
  rw [← readable]
  rfl

theorem Channel.cellByte_emit_ne (len : cell.length = 192) {i : Nat} (seven : i ≠ 7) (nine : i ≠ 9) :
    cellByte (ch.emit q cell).2 i = cellByte cell i := by
  rw [ch.emit_cell q len]
  split
  · rw [cellByte_setDiscontinuity_ne nine, cellByte_setCc_ne _ seven]
  · exact cellByte_setCc_ne _ seven

theorem Channel.cellByte_emit_cc (len : cell.length = 192) :
    cellByte (ch.emit q cell).2 7 = (cellByte cell 7).extractLsb' 4 4 ++ (ch.nextCc q cell).1 := by
  rw [ch.emit_cell q len]
  split
  · rw [cellByte_setDiscontinuity_ne (by decide), cellByte_setCc_self (by omega)]
  · exact cellByte_setCc_self (by omega) _

theorem Channel.cellCc_emit (len : cell.length = 192) : cellCc (ch.emit q cell).2 = (ch.nextCc q cell).1 := by
  rw [cellCc, ch.cellByte_emit_cc q len]
  exact BitVec.extractLsb'_append_eq_right

theorem Channel.cellByte_emit_flags (len : cell.length = 192) : cellByte (ch.emit q cell).2 9 =
    if ch.marks q cell = true then cellByte cell 9 ||| 0x80#8 else cellByte cell 9 := by
  rw [ch.emit_cell q len]
  split
  · rw [cellByte_setDiscontinuity_self (by rw [length_setCc]; omega), cellByte_setCc_ne _ (by decide)]
  · exact cellByte_setCc_ne _ (by decide)

end

end Sys2Proof.Machine

namespace Sys2Proof.Certificates.Slice0

open Sys2Proof.Machine

/-- Settles O19: with no entry cell nothing is checked, and the network cell is emitted as fetched or through the continuity rules. -/
theorem networkCellsKeepContinuity : Obligations.NetworkCellsKeepContinuity := by
  intro s c r rest e cell hand ready entry answer len network source noEntry
  have on : (s.chan c).state ≠ .off := by
    rw [network]
    decide
  have taken := State.takeRead_noEntry hand ready answer on noEntry
  have chan : (s.mapChan c fun ch => ch.taking rest cell).chan c = (s.chan c).taking rest cell := State.chan_mapChan_self ..
  have entry' : (s.mapChan c fun ch => ch.taking rest cell).entry r.entry = some e := entry
  have source' : ((s.mapChan c fun ch => ch.taking rest cell).chan c).source = .network := by
    rw [chan]
    exact source
  rw [State.produce_network source'] at taken
  have roles : ((s.mapChan c fun ch => ch.taking rest cell).chan c).config.roles = (s.chan c).config.roles := by
    rw [chan]
    rfl
  have gives {ch : Channel} {out : List Byte}
      (h : (s.mapChan c fun ch => ch.taking rest cell).emitNetwork c r.entry cell =
        (s.mapChan c fun ch => ch.taking rest cell).readAnswered c ch e out) :
      exec (.takeRead c) s = .next { s with
        up := s.up ++ [⟨e.tag, .ok out⟩]
        entries := s.entries.filter fun y => y.id ≠ r.entry
        channels := s.channels.set c ch } := by
    rw [exec_takeRead, taken, h, State.readAnswered_mapChan, State.readAnswered, State.entry_id entry]
  by_cases plain : wellFormed cell = false ∨ roleOfPid (s.chan c).config.roles (cellPid cell) = none
  · have sent := State.emitNetwork_plain (c := c) entry' (by rw [roles]; exact plain)
    rw [chan] at sent
    refine ⟨cell, (s.chan c).taking rest cell, gives sent, fun malformed => ⟨rfl, ?_⟩, fun formed _ => ⟨rfl, ?_⟩,
      fun role formed known => ?_⟩
    · rw [Channel.taking, if_neg (by simp [malformed])]
    · rw [Channel.taking, if_pos formed]
    · rcases plain with malformed | none_
      · rw [formed] at malformed
        cases malformed
      · rw [known] at none_
        cases none_
  · rw [not_or, Bool.not_eq_false] at plain
    obtain ⟨formed, isRole⟩ := plain
    obtain ⟨q, known⟩ := Option.ne_none_iff_exists'.1 isRole
    have taking : (s.chan c).taking rest cell = { s.chan c with ready := rest } := by rw [Channel.taking, if_pos formed]
    have sent := State.emitNetwork_role (c := c) entry' formed (by rw [roles]; exact known)
    rw [chan, taking] at sent
    refine ⟨_, _, gives sent, fun malformed => ?_, fun _ none_ => ?_, fun role _ known' => ?_⟩
    · rw [formed] at malformed
      cases malformed
    · rw [known] at none_
      cases none_
    · cases known.symm.trans known'
      intro was marks
      have channel := Channel.emit_channel { s.chan c with ready := rest } q len
      have mark : marks ↔ Channel.marks { s.chan c with ready := rest } q cell = true := by
        simp only [marks, Channel.marks, Bool.and_eq_true, beq_iff_eq, and_assoc]
      have flags := Channel.cellByte_emit_flags { s.chan c with ready := rest } q len
      have counter := Channel.cellCc_emit { s.chan c with ready := rest } q len
      refine ⟨fun i seven nine => Channel.cellByte_emit_ne _ q len seven nine, ?_, fun yes => ?_, fun no => ?_,
        (Channel.nextCc { s.chan c with ready := rest } q cell).2, ?_, ?_, fun settled => ?_, fun pending payload => ?_,
        fun pending bare => ?_⟩
      · rw [Channel.cellByte_emit_cc _ q len]
        exact BitVec.extractLsb'_append_eq_left
      · rw [flags, if_pos (mark.1 yes)]
      · rw [flags, if_neg fun yes => no (mark.2 yes)]
      · rw [channel]
      · rw [channel, mark]
        simp
      · rw [counter, Channel.nextCc, Continuity.next_settled settled]
        exact ⟨rfl, rfl⟩
      · rw [counter, Channel.nextCc]
        refine ⟨fun l last => ?_, fun none_ => ?_, ?_⟩
        · rw [Continuity.next_pending_last pending payload last]
        · rw [Continuity.next_pending_first pending payload none_]
        · cases last : was.last with
          | none =>
            rw [Continuity.next_pending_first pending payload last, sub_self]
          | some l => rw [Continuity.next_pending_last pending payload last]
      · rw [counter, Channel.nextCc, Continuity.next_bare pending bare]
        exact ⟨rfl, rfl⟩

end Sys2Proof.Certificates.Slice0

namespace Sys2Proof.Machine

/-! ## Source reads (R50, R51) -/

section
variable {s : State} {c : Fin 32} {e : Entry} {network : List Byte}

theorem State.requestSource_eq (s : State) (c : Fin 32) (e : Entry) (network : List Byte) (addr : Nat) (kind : SourceKind) (src : Source) :
    s.requestSource c e.id network addr kind src = s.readHeld c (s.chan c) e network addr kind src := rfl

theorem State.readHeld_mapChan (f : Channel → Channel) (ch : Channel) (addr : Nat) (kind : SourceKind) (src : Source) :
    (s.mapChan c f).readHeld c ch e network addr kind src = s.readHeld c ch e network addr kind src := by
  simp only [State.readHeld, State.mapChan, Vector.set_set]

variable {m : RegionMap} {f : Fin 6}

theorem State.feedRing_of_map (map : s.map = some m) : s.feedRing f = m.feedRings[f] := by
  simp only [State.feedRing, map]

/-- R34: the index of a cell in its ring. -/
theorem State.index_of_feedIndex {a : Stamp} {i : Nat} (cells : 0 < m.feedRings[f].cells) (h : s.feedIndex m f a i) :
    (s.feed f).index m.feedRings[f].cells a = i := by
  unfold State.feedIndex at h
  unfold FeedTracker.index
  generalize m.feedRings[f].cells = k at cells h ⊢
  generalize ((s.feed f).written - a).toNat = d at h ⊢
  have lt : d % k < k := Nat.mod_lt _ cells
  have whole : (d : Int) = d % k + k * (d / k) := (Int.emod_add_mul_ediv (d : Int) k).symm
  have same : (((s.feed f).next : Int) - d) % k = (((s.feed f).next + k - d % k : Nat) : Int) % k := by
    have split : (((s.feed f).next + k - d % k : Nat) : Int) = (s.feed f).next - d + k * (1 + d / k) := by
      rw [Nat.cast_sub (by omega)]
      push_cast
      linarith
    rw [split, Int.add_mul_emod_self_left]
  rw [same] at h
  exact_mod_cast h.symm

theorem State.requestFeed_eq (map : s.map = some m) (cells : 0 < m.feedRings[f].cells) {a : Stamp} {i : Nat} (index : s.feedIndex m f a i) :
    s.requestFeed c e.id network f a =
      s.readHeld c (s.chan c) e network (m.feedRings[f].base + 192 * i) (.feed f) (.feed f (some (a + 1))) := by
  rw [State.requestFeed, State.feedRing_of_map map, State.index_of_feedIndex cells index, State.requestSource_eq]

/-! ## The output of a read whose source is a feed (R51, R52) -/

theorem State.supplyFeed_waits (entry : s.entry e.id = some e) (latest : (s.feed f).latest = none) :
    s.supplyFeed c e.id network f none = s.readAnswered c (s.chan c).nulled e (nullCell network) := by
  simp only [State.supplyFeed, latest, Option.isSome_none, Bool.false_eq_true, if_false]
  exact State.answerNull_eq entry network

/-- The cursor has been placed on the feed's latest entry. -/
theorem State.supplyPlaced_eq (map : s.map = some m) (cells : 0 < m.feedRings[f].cells) {a : Stamp} {i : Nat} {g : Fin 6}
    (source : (s.chan c).source = .feed g (some a)) (index : s.feedIndex m f a i) :
    s.supplyPlaced c e.id network f =
      s.readHeld c (s.chan c) e network (m.feedRings[f].base + 192 * i) (.feed f) (.feed f (some (a + 1))) := by
  simp only [State.supplyPlaced, source]
  exact State.requestFeed_eq map cells index

theorem State.supplyFeed_places (map : s.map = some m) (cells : 0 < m.feedRings[f].cells) {a : Stamp} {p : Pts} {i : Nat}
    (latest : (s.feed f).latest = some (a, p)) (index : s.feedIndex m f a i) : s.supplyFeed c e.id network f none =
      s.readHeld c ((s.chan c).switched (.feed f none) ((s.chan c).outPts.getD p - p)) e network (m.feedRings[f].base + 192 * i)
        (.feed f) (.feed f (some (a + 1))) := by
  have placed : (s.mapChan c fun ch => ch.cursorOn f (some (a, p))).chan c = (s.chan c).cursorOn f (some (a, p)) :=
    State.chan_mapChan_self ..
  simp only [State.supplyFeed, latest, Option.isSome_some, if_true]
  rw [State.placeCursor_immediate, latest]
  refine (State.supplyPlaced_eq (s := s.mapChan c fun ch => ch.cursorOn f (some (a, p))) (a := a) (g := f) map cells ?_ index).trans ?_
  · rw [placed]
    rfl
  · rw [placed, State.readHeld_mapChan]
    rfl

theorem State.supplyFeed_underflow (entry : s.entry e.id = some e) : s.supplyFeed c e.id network f (some (s.feed f).written) =
    s.readAnswered c ({ s.chan c with counts := { (s.chan c).counts with underflows := sat (s.chan c).counts.underflows } } :
      Channel).nulled e (nullCell network) := by
  simp only [State.supplyFeed, if_true]
  exact State.answerNull_mapChan entry _ network

theorem State.supplyFeed_reads (map : s.map = some m) (cells : 0 < m.feedRings[f].cells) {a : Stamp} {i : Nat}
    (holds : s.feedHolds m f a) (index : s.feedIndex m f a i) : s.supplyFeed c e.id network f (some a) =
      s.readHeld c (s.chan c) e network (m.feedRings[f].base + 192 * i) (.feed f) (.feed f (some (a + 1))) := by
  obtain ⟨behind, within⟩ := holds
  have notLapped : ¬ (s.feedRing f).cells ≤ ((s.feed f).written - a).toNat := by
    rw [State.feedRing_of_map map]
    exact Nat.not_le.2 within
  simp only [State.supplyFeed, behind, notLapped, if_false]
  exact State.requestFeed_eq map cells index

/-- The channel once a slip is counted (R51). -/
def Channel.slipped (ch : Channel) : Channel :=
  { ch with counts := { ch.counts with slips := sat ch.counts.slips } }

theorem State.supplyFeed_lapped (map : s.map = some m) {a : Stamp} (behind : a ≠ (s.feed f).written)
    (lapped : m.feedRings[f].cells ≤ ((s.feed f).written - a).toNat) : s.supplyFeed c e.id network f (some a) =
      ((s.mapChan c fun ch => ch.slipped.cursorOn f (s.feed f).latest).record ⟨.feedSlip, c, 0, f, ((s.feed f).written - a).toNat,
        if ((s.chan c).slipped.cursorOn f (s.feed f).latest).placed then ((s.chan c).slipped.cursorOn f (s.feed f).latest).delta.toNat
          else 0⟩).supplyPlaced c e.id network f := by
  have lapped' : (s.feedRing f).cells ≤ ((s.feed f).written - a).toNat := by
    rw [State.feedRing_of_map map]
    exact lapped
  simp only [State.supplyFeed, behind, lapped', if_false, if_true]
  rw [State.slip]
  dsimp only
  rw [State.placeCursor_immediate, State.mapChan_mapChan, State.chan_mapChan_self]
  rfl

end

end Sys2Proof.Machine

namespace Sys2Proof.Machine

/-! ## Due events (R102, R103, R106) -/

section
variable {s : State} {c : Fin 32} {n : Pts} {why : MissReason} {slack : Option Nat}

/-- A queue without events that are due, or late enough, is left as it is. -/
theorem State.retireDue_stays (h : ∀ ev, (s.chan c).queue.head? = some ev → (ev.due n && slack.all fun t => decide (t < ev.lateness n)) = false)
    (k : Nat) : State.retireDue c n why slack k s = s := by
  cases k with
  | zero => rfl
  | succ k =>
    unfold State.retireDue
    split
    · rfl
    · next ev more queue =>
      have notDue := h ev (by rw [queue]; rfl)
      rw [if_neg (by rw [notDue]; exact Bool.false_ne_true)]

theorem State.retireDue_head {ev : AvailEvent} {more : List AvailEvent} (queue : (s.chan c).queue = ev :: more)
    (due : (ev.due n && slack.all fun t => decide (t < ev.lateness n)) = true) (k : Nat) :
    State.retireDue c n why slack (k + 1) s = State.retireDue c n why slack k (s.retire c ev why (ev.lateness n)) := by
  simp only [State.retireDue, queue, due, if_true]

theorem State.chan_retire_head {ev : AvailEvent} {more : List AvailEvent} (queue : (s.chan c).queue = ev :: more) (why : MissReason)
    (second : Nat) : (s.retire c ev why second).chan c =
      { s.chan c with queue := more, recent := joinRecent 4 (s.chan c).recent ev.event } := by
  rw [State.retire_split (front := []) why second queue nofun]
  exact Vector.getElem_set_self ..

theorem State.retireAllDue_stays (h : (s.chan c).noneDue n) : s.retireAllDue c n why = s :=
  State.retireDue_stays (fun ev head => by
    have due : ev.due n = false := h ev head
    rw [due, Bool.false_and]) _

theorem State.retireAllDue_head {ev : AvailEvent} {more : List AvailEvent} (queue : (s.chan c).queue = ev :: more)
    (due : atOrAfter n ev.time = true) :
    s.retireAllDue c n why = (s.retire c ev why (ev.lateness n)).retireAllDue c n why := by
  have length : (s.chan c).queue.length = ((s.retire c ev why (ev.lateness n)).chan c).queue.length + 1 := by
    rw [State.chan_retire_head queue, queue]
    rfl
  rw [State.retireAllDue, length, State.retireDue_head queue]
  · rfl
  · rw [AvailEvent.due, due]
    rfl

theorem State.overlapTest_stays (h : ∀ ev, (s.chan c).queue.head? = some ev → atOrAfter n ev.time = true →
    forward n ev.time ≤ (s.chan c).config.lateTolerance) : s.overlapTest c n = s :=
  State.retireDue_stays (fun ev head => by
    cases due : ev.due n with
    | false => rfl
    | true =>
      have within : ¬ (s.chan c).config.lateTolerance < ev.lateness n := Nat.not_lt.2 (h ev head due)
      simp only [Option.all_some, within, decide_false, Bool.and_false]) _

theorem State.overlapTest_head {ev : AvailEvent} {more : List AvailEvent} (queue : (s.chan c).queue = ev :: more)
    (due : atOrAfter n ev.time = true) (late : (s.chan c).config.lateTolerance < forward n ev.time) :
    s.overlapTest c n = (s.retire c ev .overlap (ev.lateness n)).overlapTest c n := by
  have length : (s.chan c).queue.length = ((s.retire c ev .overlap (ev.lateness n)).chan c).queue.length + 1 := by
    rw [State.chan_retire_head queue, queue]
    rfl
  have config : ((s.retire c ev .overlap (ev.lateness n)).chan c).config = (s.chan c).config := by
    rw [State.chan_retire_head queue]
  have late' : decide ((s.chan c).config.lateTolerance < ev.lateness n) = true := decide_eq_true late
  rw [State.overlapTest, length, State.retireDue_head queue, State.overlapTest, config]
  rw [AvailEvent.due, due, Option.all_some, late']
  rfl

/-! ## The read of an entry cell, its checks made so far (R45, R46) -/

variable {rest : List ReadyRead}

/-- An event retired as the read is taken, or before it. -/
theorem State.retire_noted {ev : AvailEvent} {more : List AvailEvent} (queue : (s.chan c).queue = ev :: more) (why : MissReason) :
    (s.mapChan c fun ch => ch.noted rest n).retire c ev why (ev.lateness n) =
      (s.headMissed c ev more why.code n).mapChan c fun ch => ch.noted rest n := by
  have queue' : ((s.mapChan c fun ch => ch.noted rest n).chan c).queue = [] ++ ev :: more := by
    rw [State.chan_mapChan_self]
    exact queue
  rw [State.retire_split why _ queue' nofun, State.chan_mapChan_self]
  simp only [State.mapChan, State.headMissed, Vector.set_set, Fin.getElem_fin, Vector.getElem_set_self]
  rfl

/-- A window removed as the read is taken, or before it. -/
theorem State.removeWindow_noted {id : Fin 48} {w : Window} (own : w.channel = c) (why : WindowEndReason) :
    (s.mapChan c fun ch => ch.noted rest n).removeWindow id w why =
      (s.windowGone c id w why.code n).mapChan c fun ch => ch.noted rest n := by
  subst own
  rw [State.removeWindow_eq, State.record_setWindow_mapChan, State.chan_mapChan_self]
  simp only [State.mapChan, State.windowGone, Vector.set_set, Fin.getElem_fin, Vector.getElem_set_self]
  rfl

/-- Two states from which the same read is taken, and in which its checks come to the same, give the same. -/
theorem exec_takeRead_congr {s' : State} {r : ReadyRead} {cell : List Byte} (hand : (s.chan c).inHand = none)
    (ready : (s.chan c).ready = r :: rest) (answer : r.answer = .ok cell) (on : (s.chan c).state ≠ .off)
    (entry : entryPts ((s.chan c).pidOf .video) cell = some n)
    (hand' : (s'.chan c).inHand = none) (ready' : (s'.chan c).ready = r :: rest) (on' : (s'.chan c).state ≠ .off)
    (config : (s'.chan c).config = (s.chan c).config)
    (checks : (s.mapChan c fun ch => ch.noted rest n).entryChecks c n = (s'.mapChan c fun ch => ch.noted rest n).entryChecks c n) :
    exec (.takeRead c) s = exec (.takeRead c) s' := by
  have entry' : entryPts ((s'.chan c).pidOf .video) cell = some n := by
    rw [Channel.pidOf, config]
    exact entry
  rw [exec_takeRead, exec_takeRead, State.takeRead_entry hand ready answer on entry, State.takeRead_entry hand' ready' answer on' entry',
    checks]

theorem State.chan_headMissed (ev : AvailEvent) (more : List AvailEvent) (why : Nat) : (s.headMissed c ev more why n).chan c =
    { s.chan c with queue := more, recent := joinRecent 4 (s.chan c).recent ev.event } :=
  Vector.getElem_set_self ..

theorem State.chan_windowGone (id : Fin 48) (w : Window) (why : Nat) : (s.windowGone c id w why n).chan c =
    { s.chan c with
      windows := (s.chan c).windows.filter fun k => k ≠ id
      window := if (s.chan c).window = some id then none else (s.chan c).window } :=
  Vector.getElem_set_self ..

/-! ## The checks of SUBST and ALERT (R46, R47, R130) -/

variable {id : Fin 48} {w : Window}

theorem State.entryChecks_subst (state : (s.chan c).state = .subst) : s.entryChecks c n = s.substChecks c n := by
  simp only [State.entryChecks, state]

theorem State.entryChecks_alert (state : (s.chan c).state = .alert) : s.entryChecks c n = s.alertChecks c n := by
  simp only [State.entryChecks, state]

theorem State.substChecks_runs (current : (s.chan c).window = some id) (record : s.window id = some w) (runs : atOrAfter n w.stop = false) :
    s.substChecks c n = s.retireAllDue c n .suppressed := by
  have notOver : w.over n = false := runs
  simp only [State.substChecks, current, record, notOver, Bool.false_eq_true, if_false]

/-- With nothing due and no window over, the checks of SUBST and of ALERT do nothing. -/
theorem State.substChecks_stays (none_ : (s.chan c).noneDue n)
    (runs : ∀ id w, (s.chan c).window = some id → s.window id = some w → atOrAfter n w.stop = false) : s.substChecks c n = s := by
  unfold State.substChecks
  split
  · rfl
  · next id current =>
    split
    · rfl
    · next w record =>
      have notOver : w.over n = false := runs id w current record
      rw [if_neg (by rw [notOver]; exact Bool.false_ne_true)]
      exact State.retireAllDue_stays none_

theorem State.alertChecks_stays (none_ : (s.chan c).noneDue n)
    (runs : ∀ id w, (s.chan c).window = some id → s.window id = some w → atOrAfter n w.stop = false) : s.alertChecks c n = s := by
  unfold State.alertChecks
  rw [State.retireAllDue_stays none_]
  dsimp only
  split
  · rfl
  · next id current =>
    split
    · rfl
    · next w record =>
      have notOver : w.over n = false := runs id w current record
      exact if_neg (by rw [notOver]; exact Bool.false_ne_true)

theorem State.alertChecks_over (none_ : (s.chan c).noneDue n) (current : (s.chan c).window = some id) (record : s.window id = some w)
    (ended : atOrAfter n w.stop = true) : s.alertChecks c n = s.removeWindow id w .ended := by
  have isOver : w.over n = true := ended
  simp only [State.alertChecks, State.retireAllDue_stays none_, current, record, isOver, if_true]

theorem State.alertChecks_head {ev : AvailEvent} {more : List AvailEvent} (queue : (s.chan c).queue = ev :: more)
    (due : atOrAfter n ev.time = true) : s.alertChecks c n = (s.retire c ev .alert (ev.lateness n)).alertChecks c n := by
  rw [State.alertChecks, State.retireAllDue_head queue due]
  rfl

end

end Sys2Proof.Machine

namespace Sys2Proof.Machine

section
variable {s : State} {c : Fin 32} {r : ReadyRead} {rest : List ReadyRead} {cell : List Byte} {f : Fin 6} {cursor : Option Stamp}

/-- The channel as a read is taken: a malformed cell is counted, and an entry cell gives N (R45). -/
def Channel.takes (ch : Channel) (rest : List ReadyRead) (cell : List Byte) : Channel :=
  { ch.taking rest cell with netPts := (entryPts (ch.pidOf .video) cell).or ch.netPts }

/-- A read of a channel in SUBST or ALERT with nothing due is supplied from its feed. -/
theorem State.takeRead_feed (hand : (s.chan c).inHand = none) (ready : (s.chan c).ready = r :: rest) (answer : r.answer = .ok cell)
    (state : (s.chan c).state = .subst ∨ (s.chan c).state = .alert) (source : (s.chan c).source = .feed f cursor)
    (stays : ∀ n, entryPts ((s.chan c).pidOf .video) cell = some n → (s.chan c).noneDue n ∧
      ∀ id w, (s.chan c).window = some id → s.window id = some w → atOrAfter n w.stop = false) :
    s.takeRead c = (s.mapChan c fun _ => (s.chan c).takes rest cell).supplyFeed c r.entry cell f cursor := by
  have on : (s.chan c).state ≠ .off := by rcases state with h | h <;> rw [h] <;> decide
  cases entry : entryPts ((s.chan c).pidOf .video) cell with
  | none =>
    have same : (s.mapChan c fun _ => (s.chan c).takes rest cell) = s.mapChan c fun ch => ch.taking rest cell := by
      rw [Channel.takes, entry, Option.none_or]
      rfl
    have source' : ((s.mapChan c fun ch => ch.taking rest cell).chan c).source = .feed f cursor := by
      rw [State.chan_mapChan_self]
      exact source
    rw [State.takeRead_noEntry hand ready answer on entry, State.produce_feed source', same]
  | some n =>
    have same : (s.mapChan c fun _ => (s.chan c).takes rest cell) = s.mapChan c fun ch => ch.noted rest n := by
      rw [Channel.takes, entry, Option.some_or, Channel.taking, if_pos (entryPts_wellFormed entry)]
      rfl
    have chan : (s.mapChan c fun ch => ch.noted rest n).chan c = (s.chan c).noted rest n := State.chan_mapChan_self ..
    have checks : (s.mapChan c fun ch => ch.noted rest n).entryChecks c n = s.mapChan c fun ch => ch.noted rest n := by
      obtain ⟨none_, runs⟩ := stays n entry
      have none' : ((s.mapChan c fun ch => ch.noted rest n).chan c).noneDue n := by
        rw [chan]
        exact none_
      have runs' : ∀ id w, ((s.mapChan c fun ch => ch.noted rest n).chan c).window = some id →
          (s.mapChan c fun ch => ch.noted rest n).window id = some w → atOrAfter n w.stop = false := by
        rw [chan]
        exact runs
      rcases state with subst | alert
      · rw [State.entryChecks_subst (by rw [chan]; exact subst)]
        exact State.substChecks_stays none' runs'
      · rw [State.entryChecks_alert (by rw [chan]; exact alert)]
        exact State.alertChecks_stays none' runs'
    have source' : ((s.mapChan c fun ch => ch.noted rest n).chan c).source = .feed f cursor := by
      rw [chan]
      exact source
    rw [State.takeRead_entry hand ready answer on entry, checks, State.produce_feed source', same]

theorem State.supplyPlaced_waits {e : Entry} (entry : s.entry e.id = some e) {g : Fin 6} (source : (s.chan c).source = .feed g none) :
    s.supplyPlaced c e.id cell f = s.readAnswered c (s.chan c).nulled e (nullCell cell) := by
  simp only [State.supplyPlaced, source]
  exact State.answerNull_eq entry cell

theorem Channel.cursorOn_none {ch : Channel} (hand : ch.inHand = none) (f : Fin 6) :
    ch.cursorOn f none = { ch with source := .feed f none } := by
  have same : (ch.inHand.map fun r => { r with orphaned := true }) = ch.inHand := by rw [hand]; rfl
  simp only [Channel.cursorOn, same]

variable {m : RegionMap} {e : Entry} {a : Stamp}

/-- A lapped cursor slips, and waits for the feed to have a latest entry (R51, R52). -/
theorem State.supplyFeed_slips_waits (hand : (s.chan c).inHand = none) (entry : s.entry e.id = some e) (map : s.map = some m)
    (behind : a ≠ (s.feed f).written) (lapped : m.feedRings[f].cells ≤ ((s.feed f).written - a).toNat)
    (latest : (s.feed f).latest = none) : s.supplyFeed c e.id cell f (some a) =
      (s.record ⟨.feedSlip, c, 0, f, ((s.feed f).written - a).toNat, 0⟩).readAnswered c
        ({ (s.chan c).slipped with source := .feed f none } : Channel).nulled e (nullCell cell) := by
  have slips := State.supplyFeed_lapped (c := c) (e := e) (network := cell) map behind lapped
  have waits : (s.chan c).slipped.cursorOn f none = { (s.chan c).slipped with source := .feed f none } :=
    Channel.cursorOn_none (ch := (s.chan c).slipped) hand f
  have notPlaced : ¬ ((s.chan c).slipped.cursorOn f none).placed = true := nofun
  rw [latest, if_neg notPlaced] at slips
  have chan : ((s.mapChan c fun ch => ch.slipped.cursorOn f none).record
      ⟨.feedSlip, c, 0, f, ((s.feed f).written - a).toNat, 0⟩).chan c = (s.chan c).slipped.cursorOn f none :=
    State.chan_mapChan_self s c fun ch => ch.slipped.cursorOn f none
  have answers := State.supplyPlaced_waits (s := (s.mapChan c fun ch => ch.slipped.cursorOn f none).record
    ⟨.feedSlip, c, 0, f, ((s.feed f).written - a).toNat, 0⟩) (c := c) (cell := cell) (f := f) (g := f) entry (by rw [chan]; rfl)
  rw [chan, waits] at answers
  exact (slips.trans answers).trans (State.readAnswered_mapChan (s := s.record
    ⟨.feedSlip, c, 0, f, ((s.feed f).written - a).toNat, 0⟩) (fun ch => ch.slipped.cursorOn f none) _ _)

/-- A lapped cursor slips, onto the feed's latest entry (R51, R52). -/
theorem State.supplyFeed_slips_places (map : s.map = some m) (cells : 0 < m.feedRings[f].cells)
    (behind : a ≠ (s.feed f).written) (lapped : m.feedRings[f].cells ≤ ((s.feed f).written - a).toNat) {b : Stamp} {p : Pts} {i : Nat}
    (latest : (s.feed f).latest = some (b, p)) (index : s.feedIndex m f b i) : s.supplyFeed c e.id cell f (some a) =
      (s.record ⟨.feedSlip, c, 0, f, ((s.feed f).written - a).toNat, ((s.chan c).outPts.getD p - p).toNat⟩).readHeld c
        ((s.chan c).switched (.feed f none) ((s.chan c).outPts.getD p - p)).slipped e cell (m.feedRings[f].base + 192 * i) (.feed f)
        (.feed f (some (b + 1))) := by
  have slips := State.supplyFeed_lapped (c := c) (e := e) (network := cell) map behind lapped
  have isPlaced : ((s.chan c).slipped.cursorOn f (some (b, p))).placed = true := rfl
  rw [latest, if_pos isPlaced] at slips
  have chan : ((s.mapChan c fun ch => ch.slipped.cursorOn f (some (b, p))).record
      ⟨.feedSlip, c, 0, f, ((s.feed f).written - a).toNat, ((s.chan c).outPts.getD p - p).toNat⟩).chan c =
        (s.chan c).slipped.cursorOn f (some (b, p)) := State.chan_mapChan_self s c fun ch => ch.slipped.cursorOn f (some (b, p))
  have asks := State.supplyPlaced_eq (s := (s.mapChan c fun ch => ch.slipped.cursorOn f (some (b, p))).record
    ⟨.feedSlip, c, 0, f, ((s.feed f).written - a).toNat, ((s.chan c).outPts.getD p - p).toNat⟩) (c := c) (e := e) (network := cell)
    (f := f) (g := f) (a := b) map cells (by rw [chan]; rfl) index
  rw [chan] at asks
  exact (slips.trans asks).trans (State.readHeld_mapChan (s := s.record
    ⟨.feedSlip, c, 0, f, ((s.feed f).written - a).toNat, ((s.chan c).outPts.getD p - p).toNat⟩)
    (fun ch => ch.slipped.cursorOn f (some (b, p))) _ _ _ _)

end

end Sys2Proof.Machine

namespace Sys2Proof.Certificates.Slice0

open Sys2Proof.Machine

/-- Settles O18: a read is taken by the branches of `State.takeRead`; one of a channel on a feed by those of `State.supplyFeed`; and
each retirement is the first step of the checks that find its event, or its window, due. -/
theorem readsAreTakenInTurn : Obligations.ReadsAreTakenInTurn := by
  intro s c
  refine ⟨fun waits => ?_, fun r rest e out hand ready entry which => ?_, fun r rest e cell m f cursor takes state source stays map cells => ?_,
    fun r rest e cell n takes entry => ?_⟩
  · rw [exec_takeRead, State.takeRead_waits waits]
  · have entry' : (s.mapChan c fun ch => { ch with ready := rest }).entry r.entry = some e := entry
    have answered : s.takeRead c = (s.mapChan c fun ch => { ch with ready := rest }).answer r.entry out := by
      rcases which with ⟨failed, rfl⟩ | ⟨off, cell, answer, rfl⟩
      · exact State.takeRead_error hand ready failed
      · exact State.takeRead_off hand ready answer off
    rw [exec_takeRead, answered, State.answer_of_entry entry']
    simp only [tag_bne]
    rfl
  · obtain ⟨hand, ready, answer, entry⟩ := takes
    have taken := State.takeRead_feed hand ready answer state source stays
    have id := State.entry_id entry
    rw [← id] at taken entry
    intro tr noted placed held
    have chan : (s.mapChan c fun _ => noted).chan c = noted := State.chan_mapChan_self ..
    have run {u : State} (h : (s.mapChan c fun _ => noted).supplyFeed c e.id cell f cursor = u) : exec (.takeRead c) s = .next u :=
      (exec_takeRead s c).trans (congrArg Host.Outcome.next (taken.trans h))
    have entry' : (s.mapChan c fun _ => noted).entry e.id = some e := entry
    have handed : noted.inHand = none := hand
    refine ⟨fun waits latest => run ?_, fun a p i waits latest index => run ?_, fun under => run ?_, fun a i isAt holds index => run ?_,
      fun a isAt behind lapped => ?_⟩
    · subst waits
      have all := State.supplyFeed_waits (c := c) (network := cell) (f := f) entry' latest
      rwa [State.readAnswered_mapChan, chan] at all
    · subst waits
      have all := State.supplyFeed_places (s := s.mapChan c fun _ => noted) (c := c) (e := e) (network := cell) map cells latest index
      rwa [State.readHeld_mapChan, chan] at all
    · subst under
      have all := State.supplyFeed_underflow (c := c) (network := cell) (f := f) entry'
      rwa [State.readAnswered_mapChan, chan] at all
    · subst isAt
      have all := State.supplyFeed_reads (s := s.mapChan c fun _ => noted) (c := c) (e := e) (network := cell) map cells holds index
      rwa [State.readHeld_mapChan, chan] at all
    · subst isAt
      intro slipped
      refine ⟨fun latest => run ?_, fun b p i latest index => run ?_⟩
      · have all := State.supplyFeed_slips_waits (s := s.mapChan c fun _ => noted) (c := c) (e := e) (cell := cell)
          (by rw [chan]; exact handed) entry' map behind lapped latest
        rw [chan] at all
        exact all.trans (State.readAnswered_mapChan (s := s.record ⟨.feedSlip, c, 0, f, (tr.written - a).toNat, 0⟩) (fun _ => noted) _ _)
      · have all := State.supplyFeed_slips_places (s := s.mapChan c fun _ => noted) (c := c) (e := e) (cell := cell)
          map cells behind lapped latest index
        rw [chan] at all
        exact all.trans (State.readHeld_mapChan (s := s.record ⟨.feedSlip, c, 0, f, (tr.written - a).toNat, (placed p).delta.toNat⟩)
          (fun _ => noted) _ _ _ _)
  · obtain ⟨hand, ready, answer, known⟩ := takes
    have chan : (s.mapChan c fun ch => ch.noted rest n).chan c = (s.chan c).noted rest n := State.chan_mapChan_self ..
    refine ⟨fun ev more queue due => ⟨fun id w subst current record runs => ?_, fun alert => ?_⟩,
      fun id w alert none_ current record own ended => ?_⟩
    · have on : (s.chan c).state ≠ .off := by rw [subst]; decide
      have missed := State.chan_headMissed (s := s) (c := c) (n := n) ev more 5
      refine exec_takeRead_congr hand ready answer on entry (by rw [missed]; exact hand) (by rw [missed]; exact ready)
        (by rw [missed]; exact on) (by rw [missed]) ?_
      have chan' : ((s.headMissed c ev more 5 n).mapChan c fun ch => ch.noted rest n).chan c =
          ((s.headMissed c ev more 5 n).chan c).noted rest n := State.chan_mapChan_self ..
      rw [State.entryChecks_subst (by rw [chan]; exact subst), 
        State.substChecks_runs (s := s.mapChan c fun ch => ch.noted rest n) (by rw [chan]; exact current) record runs,
        State.retireAllDue_head (by rw [chan]; exact queue) due, State.retire_noted queue,
        State.entryChecks_subst (by rw [chan', missed]; exact subst),
        State.substChecks_runs (s := (s.headMissed c ev more 5 n).mapChan c fun ch => ch.noted rest n) (by rw [chan', missed]; exact current)
          record runs]
      rfl
    · have on : (s.chan c).state ≠ .off := by rw [alert]; decide
      have missed := State.chan_headMissed (s := s) (c := c) (n := n) ev more 6
      refine exec_takeRead_congr hand ready answer on entry (by rw [missed]; exact hand) (by rw [missed]; exact ready)
        (by rw [missed]; exact on) (by rw [missed]) ?_
      have chan' : ((s.headMissed c ev more 6 n).mapChan c fun ch => ch.noted rest n).chan c =
          ((s.headMissed c ev more 6 n).chan c).noted rest n := State.chan_mapChan_self ..
      rw [State.entryChecks_alert (by rw [chan]; exact alert), State.alertChecks_head (by rw [chan]; exact queue) due,
        State.retire_noted queue, State.entryChecks_alert (by rw [chan', missed]; exact alert)]
      rfl
    · have on : (s.chan c).state ≠ .off := by rw [alert]; decide
      have gone := State.chan_windowGone (s := s) (c := c) (n := n) id w 1
      refine exec_takeRead_congr hand ready answer on entry (by rw [gone]; exact hand) (by rw [gone]; exact ready)
        (by rw [gone]; exact on) (by rw [gone]) ?_
      have chan' : ((s.windowGone c id w 1 n).mapChan c fun ch => ch.noted rest n).chan c =
          ((s.windowGone c id w 1 n).chan c).noted rest n := State.chan_mapChan_self ..
      have left : (((s.windowGone c id w 1 n).mapChan c fun ch => ch.noted rest n).chan c).window = none := by
        rw [chan', gone]
        exact if_pos current
      rw [State.entryChecks_alert (by rw [chan]; exact alert),
        State.alertChecks_over (s := s.mapChan c fun ch => ch.noted rest n) (by rw [chan]; exact none_) (by rw [chan]; exact current) record ended,
        State.removeWindow_noted own, State.entryChecks_alert (by rw [chan', gone]; exact alert)]
      refine (State.alertChecks_stays (s := (s.windowGone c id w 1 n).mapChan c fun ch => ch.noted rest n)
        (by rw [chan', gone]; exact none_) fun k x current' => ?_).symm
      rw [left] at current'
      cases current'

end Sys2Proof.Certificates.Slice0

namespace Sys2Proof.Machine

/-! ## A state against O21 (R46, R110, R111, R127) -/

/-- An entry cell on PID 0, with its PTS 0. -/
def entryAtZero : List Byte :=
  [0, 0, 0, 0, 0x47, 0x40, 0, 0x30, 1, 0x40, 0, 0, 1, 0, 0, 0, 0, 0x80, 5] ++ List.replicate 173 0

/-- The in-flight entry of the read. -/
def entryOne : Entry := ⟨1, false, 0, 0, 192, Treatment.pass⟩

/-- Channel 0 in SUBST with its window 0 over at PTS 0 and window 1 covering PTS 0 behind it, and a due event whose pod is clip 0. -/
def substWithEmptyPod : Channel :=
  { Channel.reset with
    config := { ChannelConfig.reset with roles := ChannelConfig.reset.roles.set 0 (some 0) }
    state := .subst
    source := .feed 0 none
    window := some 0
    ready := [⟨1, .ok entryAtZero⟩]
    clock := { ClockTracker.reset with status := .steady }
    queue := [⟨7, 0, none, false, 0, [0], none⟩]
    windows := [0, 1] }

/-- That channel, its windows, its read and an OPEN log; clip 0 has no cells. -/
def emptyPod : State :=
  { State.reset with
    entries := [entryOne]
    channels := State.reset.channels.set 0 substWithEmptyPod
    windows := (State.reset.windows.set 0 (some ⟨0, 0, 0, 0, .active⟩)).set 1 (some ⟨0, 0, 0, 10, .scheduled⟩)
    log := { State.reset.log with state := .open, reserve := 0 } }

/-- The same with window 0 ended, the channel back in NETWORK and without its windows. -/
def emptyPodEnded : State :=
  { emptyPod.record ⟨.windowEnd, 0, 1, 0, 0, 0⟩ with
    windows := emptyPod.windows.set 0 none
    channels := emptyPod.channels.set 0 ({ substWithEmptyPod with windows := [], window := none } : Channel).back }

/-- The event splices out, its pod ends at once, and the checks of NETWORK find window 1. -/
theorem takeRead_emptyPod : ((emptyPod.takeRead 0).chan 0).state = .subst := by decide +kernel

/-- The event splices out, its pod ends at once, and the checks of NETWORK find no window. -/
theorem takeRead_emptyPodEnded : ((emptyPodEnded.takeRead 0).chan 0).state = .network := by decide +kernel

end Sys2Proof.Machine

namespace Sys2Proof.Certificates.Slice0

open Sys2Proof.Machine

/-- Refutes O21: the last clause has no hypothesis on the pods of the queue. The window of `emptyPod` ends, its due event splices out
onto a clip without cells, and the pod ends at this very read, which is so taken anew with the checks of NETWORK. These include the
window test, and window 1 covers N: the channel is in SUBST again. With the list of windows empty it stays in NETWORK. -/
theorem not_returnWaitGivesNullsThenReturns : ¬ Obligations.ReturnWaitGivesNullsThenReturns := by
  intro holds
  have takes : emptyPod.takes 0 ⟨1, .ok entryAtZero⟩ [] entryOne entryAtZero := ⟨rfl, rfl, rfl, rfl⟩
  have entry : entryPts ((emptyPod.chan 0).pidOf .video) entryAtZero = some 0 := by decide +kernel
  have ended : atOrAfter (0 : Pts) 0 = true := by decide
  obtain ⟨-, -, -, windowEnds⟩ := holds emptyPod 0 ⟨1, .ok entryAtZero⟩ [] entryOne entryAtZero takes
  obtain ⟨⟨t, before, after⟩, -⟩ := windowEnds 0 0 ⟨0, 0, 0, 0, .active⟩ rfl entry rfl rfl rfl ended
  have isNext : Host.Outcome.next (emptyPodEnded.takeRead 0) = .next t := (exec_takeRead emptyPodEnded 0).symm.trans before
  have isAfter := (exec_takeRead emptyPod 0).symm.trans after
  rw [Host.Outcome.next.injEq] at isNext isAfter
  have state := takeRead_emptyPod
  rw [isAfter, State.chan, Fin.getElem_fin, Vector.getElem_set_self] at state
  have substStays : (t.chan 0).state = .subst := state
  rw [← isNext, takeRead_emptyPodEnded] at substStays
  cases substStays

end Sys2Proof.Certificates.Slice0

namespace Sys2Proof.Machine

/-! ## The window test (R124, R125) -/

section
variable {s : State} {c : Fin 32} {n : Pts} {id : Fin 48} {more : List (Fin 48)} {w : Window}

theorem Window.covers_iff : w.covers n = true ↔ atOrAfter n w.start = true ∧ isAfter w.stop n = true := by
  rw [Window.covers, Bool.and_eq_true]

/-- A window that lasts beyond N has not ended by N (R24). -/
theorem atOrAfter_of_isAfter {a b : Pts} (h : isAfter a b = true) : atOrAfter b a = false := by
  unfold isAfter forward at h
  unfold atOrAfter forward
  simp only [Bool.and_eq_true, decide_eq_true_eq] at h
  simp only [decide_eq_false_iff_not]
  bv_omega

theorem State.windowTestLoop_stays (none_ : s.noWindowAt (s.chan c).windows n) (k : Nat) : State.windowTestLoop c n k s = s := by
  cases k with
  | zero => rfl
  | succ k =>
    unfold State.windowTestLoop
    split
    · rfl
    · next id more windows =>
      split
      · rfl
      · next w record =>
        obtain ⟨notOver, notCovers⟩ := none_ id w (by rw [windows]; rfl) record
        have notOver' : ¬ (w.state = .scheduled ∧ w.over n = true) := notOver
        have notCovers' : ¬ w.covers n = true := fun h => notCovers (Window.covers_iff.1 h)
        rw [if_neg notOver', if_neg notCovers']

theorem State.windowTest_stays (none_ : s.noWindowAt (s.chan c).windows n) : s.windowTest c n = s :=
  State.windowTestLoop_stays none_ _

theorem State.windowTest_over (windows : (s.chan c).windows = id :: more) (fresh : id ∉ more) (record : s.window id = some w)
    (own : w.channel = c) (scheduled : w.state = .scheduled) (ended : atOrAfter n w.stop = true) :
    s.windowTest c n = (s.removeWindow id w .lapsed).windowTest c n := by
  have left : ((s.removeWindow id w .lapsed).chan c).windows = more := by
    subst own
    rw [State.removeWindow_eq, State.chan_mapChan_self]
    have keep : more.filter (fun k => decide (k ≠ id)) = more := List.filter_eq_self.2 fun k mem => by
      simp only [decide_eq_true_eq]
      exact fun same => fresh (same ▸ mem)
    have list : (s.chan w.channel).windows.filter (fun k => decide (k ≠ id)) = more := by
      rw [windows, List.filter_cons_of_neg (by simp), keep]
    exact list
  have over_ : w.state = .scheduled ∧ w.over n = true := ⟨scheduled, ended⟩
  rw [State.windowTest, State.windowTest, left, windows, List.length_cons]
  simp only [State.windowTestLoop, windows, record, if_pos over_]

theorem State.windowTest_covers (windows : (s.chan c).windows = id :: more) (record : s.window id = some w)
    (begun : atOrAfter n w.start = true) (lasts : isAfter w.stop n = true) : s.windowTest c n = s.startWindow c id w n := by
  have notOver : ¬ (w.state = .scheduled ∧ w.over n = true) := fun h => by
    have ended : atOrAfter n w.stop = true := h.2
    rw [atOrAfter_of_isAfter lasts] at ended
    cases ended
  have covers : w.covers n = true := Window.covers_iff.2 ⟨begun, lasts⟩
  rw [State.windowTest, windows, List.length_cons]
  simp only [State.windowTestLoop, windows, record, if_neg notOver, if_pos covers]

/-! ## The avail test (R104, R105, R107) -/

theorem State.logGate_iff : s.logGate = true ↔ s.log.state = .open ∧ s.log.reserve ≤ (s.log.floor - s.log.fo - 16) / 32 := by
  rw [State.logGate, Bool.and_eq_true, beq_iff_eq, decide_eq_true_eq]
  rfl

theorem State.availTest_stays (none_ : (s.chan c).noneDue n) : s.availTest c n = s := by
  rw [State.availTest]
  cases queue : (s.chan c).queue with
  | nil => rfl
  | cons ev more =>
    have notDue : ev.due n = false := none_ ev (by rw [queue]; rfl)
    simp only [List.length_cons, State.availTestLoop, queue, notDue, Bool.not_false, if_true]

variable {ev : AvailEvent} {evs : List AvailEvent}

/-- Why a due head is retired by the avail test (R104, R105). -/
def State.misses (s : State) (c : Fin 32) (ev : AvailEvent) (n : Pts) : MissReason → Prop
  | .late => (s.chan c).config.lateTolerance < forward n ev.time
  | .unsteady => ¬ (s.chan c).config.lateTolerance < forward n ev.time ∧ (s.chan c).clock.status ≠ .steady
  | .logFull => ¬ (s.chan c).config.lateTolerance < forward n ev.time ∧ (s.chan c).clock.status = .steady ∧ s.logGate = false
  | _ => False

theorem State.availTest_misses (queue : (s.chan c).queue = ev :: evs) (due : atOrAfter n ev.time = true) {why : MissReason}
    (h : s.misses c ev n why) : s.availTest c n = (s.retire c ev why (ev.lateness n)).availTest c n := by
  have left : ((s.retire c ev why (ev.lateness n)).chan c).queue = evs := by rw [State.chan_retire_head queue]
  have due' : ev.due n = true := due
  rw [State.availTest, State.availTest, left, queue, List.length_cons]
  simp only [State.availTestLoop, queue, due', Bool.not_true, Bool.false_eq_true, if_false]
  cases why with
  | late =>
    have late : (s.chan c).config.lateTolerance < ev.lateness n := h
    rw [if_pos late]
  | unsteady =>
    obtain ⟨notLate, notSteady⟩ := h
    have notLate' : ¬ (s.chan c).config.lateTolerance < ev.lateness n := notLate
    rw [if_neg notLate', if_pos notSteady]
  | logFull =>
    obtain ⟨notLate, steady, gate⟩ := h
    have notLate' : ¬ (s.chan c).config.lateTolerance < ev.lateness n := notLate
    rw [if_neg notLate', if_neg (not_not.2 steady), if_pos (by rw [gate]; rfl)]
  | overlap | suppressed | alert | cancelled | disabled => exact h.elim

theorem State.availTest_splices (queue : (s.chan c).queue = ev :: evs) (due : atOrAfter n ev.time = true)
    (inTime : forward n ev.time ≤ (s.chan c).config.lateTolerance) (steady : (s.chan c).clock.status = .steady)
    (gate : s.logGate = true) : s.availTest c n = (s.spliceOut c ev n).overlapTest c n := by
  have due' : ev.due n = true := due
  have notLate : ¬ (s.chan c).config.lateTolerance < ev.lateness n := Nat.not_lt.2 inTime
  rw [State.availTest, queue, List.length_cons]
  simp only [State.availTestLoop, queue, due', notLate, steady, gate, Bool.not_true, Bool.false_eq_true, if_false, ne_eq,
    not_true_eq_false]

/-! ## The checks of NETWORK (R46) -/

theorem State.entryChecks_network (state : (s.chan c).state = .network) : s.entryChecks c n = s.networkChecks c n := by
  simp only [State.entryChecks, state]

theorem State.availTestInNetwork_network (state : (s.chan c).state = .network) : s.availTestInNetwork c n = s.availTest c n :=
  if_pos state

theorem State.availTestInNetwork_other (state : (s.chan c).state ≠ .network) : s.availTestInNetwork c n = s :=
  if_neg state

/-- With no window to test the checks of NETWORK are the avail test. -/
theorem State.networkChecks_avail (state : (s.chan c).state = .network) (none_ : s.noWindowAt (s.chan c).windows n) :
    s.networkChecks c n = s.availTest c n := by
  rw [State.networkChecks, State.windowTest_stays none_, State.availTestInNetwork_network state]

/-- With nothing due and no window to test they do nothing. -/
theorem State.networkChecks_stays (state : (s.chan c).state = .network) (none_ : s.noWindowAt (s.chan c).windows n)
    (notDue : (s.chan c).noneDue n) : s.networkChecks c n = s := by
  rw [State.networkChecks_avail state none_, State.availTest_stays notDue]

/-! ## A read of an entry cell met by the checks of NETWORK -/

variable {rest : List ReadyRead}

/-- The channel as the checks of NETWORK find it: returned, when it waited for this cell (R46, R53). -/
def Channel.networked (ch : Channel) (rest : List ReadyRead) (n : Pts) : Channel :=
  if ch.state = .returnWait then (ch.noted rest n).toNetwork else ch.noted rest n

theorem Channel.networked_of_network {ch : Channel} (h : ch.state = .network) : ch.networked rest n = ch.noted rest n :=
  if_neg (by rw [h]; decide)

theorem Channel.networked_fields (ch : Channel) (rest : List ReadyRead) (n : Pts) :
    (ch.networked rest n).queue = ch.queue ∧ (ch.networked rest n).windows = ch.windows ∧
      (ch.networked rest n).config = ch.config ∧ (ch.networked rest n).clock = ch.clock ∧
      (ch.networked rest n).netPts = some n := by
  unfold Channel.networked
  split <;> exact ⟨rfl, rfl, rfl, rfl, rfl⟩

theorem Channel.networked_state {ch : Channel} (h : ch.state = .network ∨ ch.state = .returnWait) : (ch.networked rest n).state = .network := by
  unfold Channel.networked
  split
  · rfl
  · next other => exact h.resolve_right other

theorem State.entryChecks_networked (state : (s.chan c).state = .network ∨ (s.chan c).state = .returnWait) :
    (s.mapChan c fun ch => ch.noted rest n).entryChecks c n = (s.mapChan c fun ch => ch.networked rest n).networkChecks c n := by
  have chan : (s.mapChan c fun ch => ch.noted rest n).chan c = (s.chan c).noted rest n := State.chan_mapChan_self ..
  rcases state with network | waits
  · have same : (s.mapChan c fun ch => ch.networked rest n) = s.mapChan c fun ch => ch.noted rest n :=
      congrArg (fun ch => s.mapChan c fun _ => ch) (Channel.networked_of_network network)
    rw [State.entryChecks_network (by rw [chan]; exact network), same]
  · have waits' : ((s.mapChan c fun ch => ch.noted rest n).chan c).state = .returnWait := by
      rw [chan]
      exact waits
    have same : (s.mapChan c fun ch => ch.networked rest n) = (s.mapChan c fun ch => ch.noted rest n).returnToNetwork c := by
      rw [State.returnToNetwork, State.mapChan_mapChan]
      exact congrArg (fun ch => s.mapChan c fun _ => ch) (if_pos waits)
    simp only [State.entryChecks, waits', same]

theorem State.retire_networked (queue : (s.chan c).queue = ev :: evs) (why : MissReason) :
    (s.mapChan c fun ch => ch.networked rest n).retire c ev why (ev.lateness n) =
      (s.headMissed c ev evs why.code n).mapChan c fun ch => ch.networked rest n := by
  have queue' : ((s.mapChan c fun ch => ch.networked rest n).chan c).queue = [] ++ ev :: evs := by
    rw [State.chan_mapChan_self, (Channel.networked_fields ..).1]
    exact queue
  have commutes : ({ (s.chan c).networked rest n with
        queue := evs, recent := joinRecent 4 ((s.chan c).networked rest n).recent ev.event } : Channel) =
      ({ s.chan c with queue := evs, recent := joinRecent 4 (s.chan c).recent ev.event } : Channel).networked rest n := by
    unfold Channel.networked
    by_cases waits : (s.chan c).state = .returnWait
    · rw [if_pos waits, if_pos waits]
      rfl
    · rw [if_neg waits, if_neg waits]
      rfl
  rw [State.retire_split why _ queue' nofun, State.chan_mapChan_self]
  simp only [State.mapChan, State.headMissed, Vector.set_set, Fin.getElem_fin, Vector.getElem_set_self, ← commutes]
  rfl

theorem State.removeWindow_networked (own : w.channel = c) (why : WindowEndReason) :
    (s.mapChan c fun ch => ch.networked rest n).removeWindow id w why =
      (s.windowGone c id w why.code n).mapChan c fun ch => ch.networked rest n := by
  subst own
  have commutes : ((s.chan w.channel).networked rest n).forgetWindow id = ({ s.chan w.channel with
      windows := (s.chan w.channel).windows.filter fun k => k ≠ id
      window := if (s.chan w.channel).window = some id then none else (s.chan w.channel).window } : Channel).networked rest n := by
    unfold Channel.networked
    by_cases waits : (s.chan w.channel).state = .returnWait
    · rw [if_pos waits, if_pos waits]
      rfl
    · rw [if_neg waits, if_neg waits]
      rfl
  obtain ⟨-, -, -, -, pts⟩ := (s.chan w.channel).networked_fields rest n
  rw [State.removeWindow_eq, State.record_setWindow_mapChan, State.chan_mapChan_self, pts, commutes]
  simp only [State.mapChan, State.windowGone, Vector.set_set, Fin.getElem_fin, Vector.getElem_set_self]
  rfl

end

end Sys2Proof.Machine

namespace Sys2Proof.Machine

section
variable {s : State} {c : Fin 32} {n : Pts} {id : Fin 48} {w : Window} {rest : List ReadyRead}

/-! ## The start of a window (R52, R54, R125) -/

/-- The channel with its cursor on a feed, anchored on the cell at hand, and with no read in hand (R52, R54). -/
def Channel.anchored (ch : Channel) (f : Fin 6) (latest : Option (Stamp × Pts)) (n : Pts) : Channel :=
  match latest with
  | none => { ch with source := .feed f none }
  | some (a, p) => ch.switched (.feed f (some a)) (n - p)

theorem Channel.place_cell {ch : Channel} (hand : ch.inHand = none) (f : Fin 6) (latest : Option (Stamp × Pts)) (n : Pts) :
    ch.place f latest (.cell n) = ch.anchored f latest n := by
  have same : (ch.inHand.map fun r => { r with orphaned := true }) = ch.inHand := by rw [hand]; rfl
  cases latest with
  | none => simp only [Channel.place, Channel.setSource, Channel.orphan, same, Channel.anchored]
  | some e => simp only [Channel.place, Channel.switchTo, Channel.setSource, Channel.orphan, same, Channel.anchored, Channel.anchorPts,
      Channel.switched]

/-- The reason and the Δ of the WINDOW_START of a window that starts at N. -/
def startFigures (latest : Option (Stamp × Pts)) (n : Pts) : Nat × Nat :=
  match latest with
  | none => (2, 0)
  | some (_, p) => (1, (n - p).toNat)

/-- R125: a window goes on the output at N, with its WINDOW_START. -/
theorem State.showWindow_started (hand : (s.chan c).inHand = none) (own : w.channel = c) :
    ((s.mapChan c fun ch => ch.noted rest n).showWindow id w (.cell n)).recordWindowStart c id .started .startedWaiting =
      ({ s.record ⟨.windowStart, c, (startFigures (s.feed (localFeed w.feed)).latest n).1, id, n.toNat,
          (startFigures (s.feed (localFeed w.feed)).latest n).2⟩ with
        windows := s.windows.set id (some { w with state := .active })
        channels := s.channels.set c (({ s.chan c with window := some id, state := .subst } : Channel).anchored (localFeed w.feed)
          (s.feed (localFeed w.feed)).latest n) } : State).mapChan c fun ch => ch.noted rest n := by
  subst own
  have handed : ({ (s.chan w.channel).noted rest n with window := some id, state := .subst } : Channel).inHand = none := hand
  have shown : (s.mapChan w.channel fun ch => ch.noted rest n).showWindow id w (.cell n) =
      { s with
        windows := s.windows.set id (some { w with state := .active })
        channels := s.channels.set w.channel (({ (s.chan w.channel).noted rest n with window := some id, state := .subst } :
          Channel).anchored (localFeed w.feed) (s.feed (localFeed w.feed)).latest n) } := by
    rw [← Channel.place_cell handed]
    unfold State.showWindow State.placeCursor
    simp only [State.mapChan, State.setWindow, Vector.set_set, Fin.getElem_fin, Vector.getElem_set_self]
    rfl
  rw [shown, State.recordWindowStart]
  cases latest : (s.feed (localFeed w.feed)).latest with
  | none =>
    simp only [State.chan, State.mapChan, Fin.getElem_fin, Vector.getElem_set_self, Vector.set_set]
    rfl
  | some e =>
    simp only [State.chan, State.mapChan, Fin.getElem_fin, Vector.getElem_set_self, Vector.set_set]
    rfl

theorem State.retireDue_state (why : MissReason) (slack : Option Nat) (k : Nat) (s : State) :
    ((State.retireDue c n why slack k s).chan c).state = (s.chan c).state := by
  induction k generalizing s with
  | zero => rfl
  | succ k ih =>
    unfold State.retireDue
    split
    · rfl
    · next ev more queue =>
      split
      · rw [ih, State.chan_retire_head queue]
      · rfl

/-- The state once a window has gone on the output at N, and the channel has not taken its read. -/
def State.windowStarted (s : State) (c : Fin 32) (id : Fin 48) (w : Window) (n : Pts) : State :=
  { s.record ⟨.windowStart, c, (startFigures (s.feed (localFeed w.feed)).latest n).1, id, n.toNat,
      (startFigures (s.feed (localFeed w.feed)).latest n).2⟩ with
    windows := s.windows.set id (some { w with state := .active })
    channels := s.channels.set c (({ s.chan c with window := some id, state := .subst } : Channel).anchored (localFeed w.feed)
      (s.feed (localFeed w.feed)).latest n) }

theorem State.chan_windowStarted : (s.windowStarted c id w n).chan c =
    ({ s.chan c with window := some id, state := .subst } : Channel).anchored (localFeed w.feed) (s.feed (localFeed w.feed)).latest n :=
  Vector.getElem_set_self ..

theorem Channel.anchored_fields (ch : Channel) (f : Fin 6) (latest : Option (Stamp × Pts)) (n : Pts) :
    (ch.anchored f latest n).inHand = ch.inHand ∧ (ch.anchored f latest n).ready = ch.ready ∧ (ch.anchored f latest n).state = ch.state ∧
      (ch.anchored f latest n).config = ch.config ∧ (ch.anchored f latest n).window = ch.window ∧
      (ch.anchored f latest n).queue = ch.queue := by
  cases latest <;> exact ⟨rfl, rfl, rfl, rfl, rfl, rfl⟩

theorem State.window_windowStarted : (s.windowStarted c id w n).window id = some { w with state := .active } :=
  Vector.getElem_set_self ..

/-- R47, R125: a read whose cell starts a window is as one that finds it started. -/
theorem exec_takeRead_starts {r : ReadyRead} {cell : List Byte} {more : List (Fin 48)} (hand : (s.chan c).inHand = none)
    (ready : (s.chan c).ready = r :: rest) (answer : r.answer = .ok cell) (network : (s.chan c).state = .network)
    (entry : entryPts ((s.chan c).pidOf .video) cell = some n) (windows : (s.chan c).windows = id :: more)
    (record : s.window id = some w) (own : w.channel = c) (begun : atOrAfter n w.start = true) (lasts : isAfter w.stop n = true) :
    exec (.takeRead c) s = exec (.takeRead c) (s.windowStarted c id w n) := by
  have on : (s.chan c).state ≠ .off := by rw [network]; decide
  have chan : (s.mapChan c fun ch => ch.noted rest n).chan c = (s.chan c).noted rest n := State.chan_mapChan_self ..
  obtain ⟨inHand, isReady, state, config, current, -⟩ := Channel.anchored_fields
    ({ s.chan c with window := some id, state := .subst } : Channel) (localFeed w.feed) (s.feed (localFeed w.feed)).latest n
  have chan' : ((s.windowStarted c id w n).mapChan c fun ch => ch.noted rest n).chan c =
      ((s.windowStarted c id w n).chan c).noted rest n := State.chan_mapChan_self ..
  rw [← State.chan_windowStarted] at inHand isReady state config current
  refine exec_takeRead_congr hand ready answer on entry (inHand.trans hand) (isReady.trans ready) (by rw [state]; exact nofun) config ?_
  have state' : (((s.windowStarted c id w n).mapChan c fun ch => ch.noted rest n).chan c).state = .subst := by
    rw [chan']
    exact state
  have current' : (((s.windowStarted c id w n).mapChan c fun ch => ch.noted rest n).chan c).window = some id := by
    rw [chan']
    exact current
  have started := State.showWindow_started (s := s) (c := c) (n := n) (id := id) (rest := rest) hand own
  have checks : (s.mapChan c fun ch => ch.noted rest n).windowTest c n =
      ((s.windowStarted c id w n).mapChan c fun ch => ch.noted rest n).retireAllDue c n .suppressed :=
    (State.windowTest_covers (s := s.mapChan c fun ch => ch.noted rest n) (by rw [chan]; exact windows) record begun lasts).trans
      (congrArg (fun u => u.retireAllDue c n .suppressed) started)
  have stays : ((((s.windowStarted c id w n).mapChan c fun ch => ch.noted rest n).retireAllDue c n .suppressed).chan c).state ≠
      .network := by
    rw [State.retireAllDue, State.retireDue_state, state']
    decide
  rw [State.entryChecks_network (by rw [chan]; exact network), State.networkChecks, checks, State.availTestInNetwork_other stays,
    State.entryChecks_subst state']
  exact (State.substChecks_runs (s := (s.windowStarted c id w n).mapChan c fun ch => ch.noted rest n) (w := { w with state := .active })
    current' (State.window_windowStarted (s := s) (c := c) (n := n)) (atOrAfter_of_isAfter lasts)).symm

/-! ## The retirements of NETWORK and of the return from RETURN_WAIT (R46, R104, R106) -/

/-- R104: a due head that fails a test of the avail test is retired first. -/
theorem exec_takeRead_misses {r : ReadyRead} {cell : List Byte} {ev : AvailEvent} {evs : List AvailEvent}
    (hand : (s.chan c).inHand = none) (ready : (s.chan c).ready = r :: rest) (answer : r.answer = .ok cell)
    (state : (s.chan c).state = .network ∨ (s.chan c).state = .returnWait)
    (entry : entryPts ((s.chan c).pidOf .video) cell = some n) (queue : (s.chan c).queue = ev :: evs)
    (due : atOrAfter n ev.time = true) (none_ : s.noWindowAt (s.chan c).windows n) {why : MissReason} (h : s.misses c ev n why) :
    exec (.takeRead c) s = exec (.takeRead c) (s.headMissed c ev evs why.code n) := by
  have on : (s.chan c).state ≠ .off := by rcases state with h | h <;> rw [h] <;> decide
  have missed := State.chan_headMissed (s := s) (c := c) (n := n) ev evs why.code
  refine exec_takeRead_congr hand ready answer on entry (by rw [missed]; exact hand) (by rw [missed]; exact ready)
    (by rw [missed]; exact on) (by rw [missed]) ?_
  obtain ⟨isQueue, windows, config, clock, -⟩ := (s.chan c).networked_fields rest n
  have chan : (s.mapChan c fun ch => ch.networked rest n).chan c = (s.chan c).networked rest n := State.chan_mapChan_self ..
  have chan' : ((s.headMissed c ev evs why.code n).mapChan c fun ch => ch.networked rest n).chan c =
      ((s.headMissed c ev evs why.code n).chan c).networked rest n := State.chan_mapChan_self ..
  obtain ⟨-, windows', -, -, -⟩ := ((s.headMissed c ev evs why.code n).chan c).networked_fields rest n
  have network := Channel.networked_state (rest := rest) (n := n) state
  have misses : (s.mapChan c fun ch => ch.networked rest n).misses c ev n why := by
    have same : (s.mapChan c fun ch => ch.networked rest n).misses c ev n why = s.misses c ev n why := by
      cases why <;> simp only [State.misses, chan, config, clock] <;> rfl
    rw [same]
    exact h
  rw [State.entryChecks_networked state, State.entryChecks_networked (by rw [missed]; exact state),
    State.networkChecks_avail (by rw [chan]; exact network) (by rw [chan, windows]; exact none_),
    State.networkChecks_avail (by rw [chan']; exact Channel.networked_state (by rw [missed]; exact state))
      (by rw [chan', windows', missed]; exact none_),
    State.availTest_misses (by rw [chan, isQueue]; exact queue) due misses, State.retire_networked queue]

/-- R124: an earliest window that has ended is removed first. -/
theorem networkChecks_lapses {more : List (Fin 48)} (state : (s.chan c).state = .network ∨ (s.chan c).state = .returnWait)
    (windows : (s.chan c).windows = id :: more) (fresh : id ∉ more) (record : s.window id = some w) (own : w.channel = c)
    (scheduled : w.state = .scheduled) (ended : atOrAfter n w.stop = true) :
    (s.mapChan c fun ch => ch.noted rest n).entryChecks c n =
      ((s.windowGone c id w 2 n).mapChan c fun ch => ch.noted rest n).entryChecks c n := by
  have gone := State.chan_windowGone (s := s) (c := c) (n := n) id w 2
  obtain ⟨-, isWindows, -, -, -⟩ := (s.chan c).networked_fields rest n
  have chan : (s.mapChan c fun ch => ch.networked rest n).chan c = (s.chan c).networked rest n := State.chan_mapChan_self ..
  have lapses := State.windowTest_over (s := s.mapChan c fun ch => ch.networked rest n) (by rw [chan, isWindows]; exact windows) fresh
    record own scheduled ended
  rw [State.removeWindow_networked own] at lapses
  rw [State.entryChecks_networked state, State.entryChecks_networked (by rw [gone]; exact state), State.networkChecks,
    State.networkChecks, lapses]
  rfl

theorem exec_takeRead_lapses {r : ReadyRead} {cell : List Byte} {more : List (Fin 48)} (hand : (s.chan c).inHand = none)
    (ready : (s.chan c).ready = r :: rest) (answer : r.answer = .ok cell)
    (state : (s.chan c).state = .network ∨ (s.chan c).state = .returnWait) (entry : entryPts ((s.chan c).pidOf .video) cell = some n)
    (windows : (s.chan c).windows = id :: more) (fresh : id ∉ more) (record : s.window id = some w) (own : w.channel = c)
    (scheduled : w.state = .scheduled) (ended : atOrAfter n w.stop = true) :
    exec (.takeRead c) s = exec (.takeRead c) (s.windowGone c id w 2 n) := by
  have on : (s.chan c).state ≠ .off := by rcases state with h | h <;> rw [h] <;> decide
  have gone := State.chan_windowGone (s := s) (c := c) (n := n) id w 2
  exact exec_takeRead_congr hand ready answer on entry (by rw [gone]; exact hand) (by rw [gone]; exact ready)
    (by rw [gone]; exact on) (by rw [gone]) (networkChecks_lapses state windows fresh record own scheduled ended)

end

end Sys2Proof.Machine

namespace Sys2Proof.Machine

/-! ## The avail that splices out (R101, R107, R108) -/

section
variable {s : State} {c : Fin 32} {n : Pts}

/-- Events that are overdue behind a splice-out are retired, one after another (R106). -/
theorem State.overlapTest_eq (gone more : List AvailEvent) (s : State) (queue : (s.chan c).queue = gone ++ more)
    (late : ∀ x ∈ gone, atOrAfter n x.time = true ∧ (s.chan c).config.lateTolerance < forward n x.time)
    (stays : ∀ x, more.head? = some x → atOrAfter n x.time = false ∨ forward n x.time ≤ (s.chan c).config.lateTolerance) :
    s.overlapTest c n =
      (s.recordAll (gone.map fun x => ⟨.eventMissed, c, 4, x.event, x.time.toNat, forward n x.time⟩)).stores
        (s.channels.set c { s.chan c with
          queue := more, recent := gone.foldl (fun l x => joinRecent 4 l x.event) (s.chan c).recent }) s.windows s.clips := by
  induction gone generalizing s with
  | nil =>
    have same : ({ s.chan c with queue := more } : Channel) = s.chan c := by
      rw [← show (s.chan c).queue = more from queue]
    have kept : s.channels.set c (s.chan c) = s.channels := Vector.set_getElem_self ..
    have notLate : s.overlapTest c n = s := State.overlapTest_stays fun ev head due => by
      rw [queue] at head
      rcases stays ev head with notDue | within
      · rw [due] at notDue
        cases notDue
      · exact within
    rw [notLate, List.foldl_nil, same, kept]
    rfl
  | cons x gone ih =>
    obtain ⟨due, isLate⟩ := late x (List.mem_cons_self ..)
    have retired := State.chan_retire_head (s := s) (more := gone ++ more) queue .overlap (x.lateness n)
    have config : ((s.retire c x .overlap (x.lateness n)).chan c).config = (s.chan c).config := by rw [retired]
    have rest := ih (s.retire c x .overlap (x.lateness n)) (by rw [retired]) (fun y mem => by rw [config]; exact late y (.tail _ mem))
      (fun y head => by rw [config]; exact stays y head)
    rw [retired] at rest
    rw [State.overlapTest_head queue due isLate, rest, State.retire_split (front := []) .overlap _ queue nofun]
    simp only [State.stores, State.recordAll_stores, Vector.set_set]
    rfl

/-- R107, R108: the splice-out of the queue's head. -/
theorem State.spliceOut_eq {ev : AvailEvent} {clip : Fin 64} {clips : List (Fin 64)} {p0 : Pts} {evs : List AvailEvent}
    (queue : (s.chan c).queue = ev :: evs) (pod : ev.pod = clip :: clips) (first : (s.clip clip).p0 = some p0)
    (hand : (s.chan c).inHand = none) : s.spliceOut c ev n =
      (s.recordAll [⟨.availStart, c, 0, ev.event, n.toNat, ev.avail⟩, ⟨.clipStart, c, 0, clip, n.toNat, (n - p0).toNat⟩]).stores
        (s.channels.set c { (s.chan c).switched (.clip clip 0) (n - p0) with
          queue := evs, avail := some (ev.toAvail n), state := .insert, clipAnchor := some n })
        s.windows (s.clips.set clip { s.clip clip with plays := (s.clip clip).plays + 1 }) := by
  have same : ((s.chan c).inHand.map fun r => { r with orphaned := true }) = (s.chan c).inHand := by rw [hand]; rfl
  have head : ev.pod.headD 0 = clip := by rw [pod]; rfl
  have started : ({ (s.chan c) with queue := (s.chan c).queue.tail, avail := some (ev.toAvail n), state := .insert } : Channel).switchTo
      (.clip clip 0) (n - p0) = { (s.chan c).switched (.clip clip 0) (n - p0) with
        queue := evs, avail := some (ev.toAvail n), state := .insert } := by
    simp only [Channel.switchTo, Channel.setSource, Channel.orphan, same, queue, List.tail_cons, Channel.switched]
  have u0 := State.chan_mapChan_self s c fun ch => { ch with queue := ch.queue.tail, avail := some (ev.toAvail n), state := .insert }
  have p0' : ((s.mapChan c fun ch => { ch with queue := ch.queue.tail, avail := some (ev.toAvail n), state := .insert }).clip clip).p0 =
      some p0 := first
  rw [State.spliceOut, head, State.startClip, p0', Option.getD_some]
  simp only [State.recordClipStart, State.chan_record, State.chan_mapChan_self, State.chan_mapClip, started]
  simp only [State.mapChan, State.mapClip, State.stores, Vector.set_set, Fin.getElem_fin, Vector.getElem_set_self]
  rw [show s.channels[c.val] = s.chan c from rfl, started]
  rfl

end

end Sys2Proof.Machine

namespace Sys2Proof.Machine

section
variable {s : State} {c : Fin 32} {n : Pts} {r : ReadyRead} {rest : List ReadyRead} {cell : List Byte}

theorem roleOfPid_video {roles : RoleMap} {pid : Nat} (h : roles[Role.video.idx] = some pid) : roleOfPid roles pid = some .video :=
  List.find?_cons_of_pos (by rw [h]; exact beq_self_eq_true _)

/-- R49: an entry cell of a channel in NETWORK is emitted on VIDEO. -/
theorem State.produce_entry {e : Entry} {at? : Option Pts} (entry : s.entry e.id = some e) (source : (s.chan c).source = .network)
    (isEntry : entryPts ((s.chan c).pidOf .video) cell = some n) :
    s.produce c e.id cell at? = s.networkAnswered c (s.chan c) e cell := by
  rw [State.produce_network source]
  exact State.emitNetwork_role entry (entryPts_wellFormed isEntry) (roleOfPid_video (entryPts_video isEntry))

theorem State.networkAnswered_mapChan (f : Channel → Channel) (ch : Channel) (e : Entry) :
    (s.mapChan c f).networkAnswered c ch e cell = s.networkAnswered c ch e cell :=
  State.readAnswered_mapChan ..

theorem State.window_windowGone_ne {k id : Fin 48} (w : Window) (why : Nat) (ne : k ≠ id) :
    (s.windowGone c id w why n).window k = s.window k :=
  Vector.getElem_set_ne id.isLt k.isLt fun same => ne (Fin.ext same.symm)

theorem Channel.takes_entry {ch : Channel} (entry : entryPts (ch.pidOf .video) cell = some n) : ch.takes rest cell = ch.noted rest n := by
  rw [Channel.takes, entry, Option.some_or, Channel.taking, if_pos (entryPts_wellFormed entry)]
  rfl

/-! ## The read at which an avail splices out (R50, R107) -/

theorem AvailEvent.returnAt_some {ev : AvailEvent} {q : Pts} (h : ev.ret = some q) : ev.returnAt n = some (q, .cueIn) := by
  simp only [AvailEvent.returnAt, h]

theorem AvailEvent.returnAt_duration {ev : AvailEvent} {d : Nat} (h : ev.ret = none) (h' : ev.duration = some d) :
    ev.returnAt n = some (n + BitVec.ofNat 33 d, .breakEnd) := by
  simp only [AvailEvent.returnAt, h, h']

theorem AvailEvent.returnAt_none {ev : AvailEvent} (h : ev.ret = none) (h' : ev.duration = none) : ev.returnAt n = none := by
  simp only [AvailEvent.returnAt, h, h']

/-- The channel as the pod's first clip starts, the overdue events behind the avail retired. -/
def Channel.splicedOut (ch : Channel) (rest : List ReadyRead) (n : Pts) (ev : AvailEvent) (clip : Fin 64) (p0 : Pts)
    (gone more : List AvailEvent) : Channel :=
  { (ch.noted rest n).switched (.clip clip 0) (n - p0) with
    queue := more
    recent := gone.foldl (fun l x => joinRecent 4 l x.event) ch.recent
    avail := some (ev.toAvail n)
    state := .insert
    clipAnchor := some n }

theorem State.availTest_splicedOut {ev : AvailEvent} {gone more : List AvailEvent} {clip : Fin 64} {clips : List (Fin 64)} {p0 : Pts}
    (hand : (s.chan c).inHand = none) (queue : (s.chan c).queue = ev :: (gone ++ more)) (due : atOrAfter n ev.time = true)
    (inTime : forward n ev.time ≤ (s.chan c).config.lateTolerance) (steady : (s.chan c).clock.status = .steady)
    (gate : s.logGate = true) (pod : ev.pod = clip :: clips) (first : (s.clip clip).p0 = some p0)
    (late : ∀ x ∈ gone, atOrAfter n x.time = true ∧ (s.chan c).config.lateTolerance < forward n x.time)
    (stays : ∀ x, more.head? = some x → atOrAfter n x.time = false ∨ forward n x.time ≤ (s.chan c).config.lateTolerance) :
    (s.mapChan c fun ch => ch.noted rest n).availTest c n =
      (s.recordAll ([⟨.availStart, c, 0, ev.event, n.toNat, ev.avail⟩, ⟨.clipStart, c, 0, clip, n.toNat, (n - p0).toNat⟩] ++
        gone.map fun x => ⟨.eventMissed, c, 4, x.event, x.time.toNat, forward n x.time⟩)).stores
        (s.channels.set c ((s.chan c).splicedOut rest n ev clip p0 gone more)) s.windows
        (s.clips.set clip { s.clip clip with plays := (s.clip clip).plays + 1 }) := by
  have chan : (s.mapChan c fun ch => ch.noted rest n).chan c = (s.chan c).noted rest n := State.chan_mapChan_self ..
  have splices := State.availTest_splices (s := s.mapChan c fun ch => ch.noted rest n) (by rw [chan]; exact queue) due
    (by rw [chan]; exact inTime) (by rw [chan]; exact steady) gate
  have out := State.spliceOut_eq (s := s.mapChan c fun ch => ch.noted rest n) (c := c) (n := n) (by rw [chan]; exact queue) pod first
    (by rw [chan]; exact hand)
  rw [chan] at out
  have chanOut : ((s.mapChan c fun ch => ch.noted rest n).spliceOut c ev n).chan c =
      { ((s.chan c).noted rest n).switched (.clip clip 0) (n - p0) with
        queue := gone ++ more, avail := some (ev.toAvail n), state := .insert, clipAnchor := some n } := by
    rw [out]
    exact Vector.getElem_set_self ..
  have overlaps := State.overlapTest_eq (c := c) (n := n) gone more ((s.mapChan c fun ch => ch.noted rest n).spliceOut c ev n)
    (by rw [chanOut]) (by rw [chanOut]; exact late) (by rw [chanOut]; exact stays)
  rw [chanOut] at overlaps
  rw [splices, overlaps, out, State.recordAll_append]
  simp only [State.stores, State.recordAll_stores, State.mapChan, Vector.set_set]
  rfl

/-! ## The reads at which nothing is due (R46, R49, R51, R52) -/

section
variable {e : Entry} (hand : (s.chan c).inHand = none) (ready : (s.chan c).ready = r :: rest) (answer : r.answer = .ok cell)
  (isRead : e.id = r.entry) (known : s.entry e.id = some e) (network : (s.chan c).state = .network)
  (entry : entryPts ((s.chan c).pidOf .video) cell = some n) (notDue : (s.chan c).noneDue n)
include hand ready answer isRead known network entry notDue

/-- With no window to test the network cell is the output. -/
theorem exec_takeRead_emits (source : (s.chan c).source = .network) (noWindow : s.noWindowAt (s.chan c).windows n) :
    exec (.takeRead c) s = .next (s.networkAnswered c ((s.chan c).noted rest n) e cell) := by
  have on : (s.chan c).state ≠ .off := by rw [network]; decide
  have chan : (s.mapChan c fun ch => ch.noted rest n).chan c = (s.chan c).noted rest n := State.chan_mapChan_self ..
  have emits := State.produce_entry (s := s.mapChan c fun ch => ch.noted rest n) (c := c) (at? := some n) known
    (by rw [chan]; exact source) (by rw [chan]; exact entry)
  rw [State.networkAnswered_mapChan, chan] at emits
  rw [exec_takeRead, State.takeRead_entry hand ready answer on entry, ← isRead, State.entryChecks_network (by rw [chan]; exact network),
    State.networkChecks_stays (by rw [chan]; exact network) (by rw [chan]; exact noWindow) (by rw [chan]; exact notDue), emits]

variable {id : Fin 48} {more : List (Fin 48)} {w : Window} (windows : (s.chan c).windows = id :: more) (record : s.window id = some w)
  (own : w.channel = c)
include windows record own

/-- With an ended window in front of those that leave the read alone, it is removed, and the network cell is the output. -/
theorem exec_takeRead_lapsed (source : (s.chan c).source = .network) (scheduled : w.state = .scheduled)
    (ended : atOrAfter n w.stop = true) (fresh : id ∉ more) (noWindow : s.noWindowAt more n) :
    exec (.takeRead c) s = .next (({ s.record ⟨.windowEnd, c, 2, id, n.toNat, w.stop.toNat⟩ with
      windows := s.windows.set id none } : State).networkAnswered c { (s.chan c).noted rest n with
        windows := more, window := if (s.chan c).window = some id then none else (s.chan c).window } e cell) := by
  have left : (s.chan c).windows.filter (fun k => k ≠ id) = more := by
    rw [windows, List.filter_cons_of_neg (by simp)]
    refine List.filter_eq_self.2 fun k mem => ?_
    simp only [ne_eq, decide_not, Bool.not_eq_eq_eq_not, Bool.not_true, decide_eq_false_iff_not]
    exact fun same => fresh (same ▸ mem)
  have gone := State.chan_windowGone (s := s) (c := c) (n := n) id w 2
  rw [left] at gone
  have noWindow' : (s.windowGone c id w 2 n).noWindowAt ((s.windowGone c id w 2 n).chan c).windows n := by
    rw [gone]
    intro k x head held
    have ne : k ≠ id := fun same => fresh (same ▸ List.mem_of_head? head)
    refine noWindow k x head ?_
    rw [← held]
    exact (State.window_windowGone_ne (s := s) (c := c) (n := n) w 2 ne).symm
  rw [exec_takeRead_lapses hand ready answer (.inl network) entry windows fresh record own scheduled ended,
    exec_takeRead_emits (s := s.windowGone c id w 2 n) (by rw [gone]; exact hand) (by rw [gone]; exact ready) answer isRead known
      (by rw [gone]; exact network) (by rw [gone]; exact entry) (by rw [gone]; exact notDue) (by rw [gone]; exact source) noWindow', gone]
  exact congrArg Host.Outcome.next (State.networkAnswered_mapChan (s := ({ s.record ⟨.windowEnd, c, 2, id, n.toNat, w.stop.toNat⟩ with
    windows := s.windows.set id none } : State)) (fun _ => _) _ e)

omit known in
/-- With a window that starts, the read is supplied from the window's feed. -/
theorem exec_takeRead_supplied {cursor : Option Stamp} (begun : atOrAfter n w.start = true) (lasts : isAfter w.stop n = true)
    (feeds : ((s.windowStarted c id w n).chan c).source = .feed (localFeed w.feed) cursor) :
    exec (.takeRead c) s = .next (((s.windowStarted c id w n).mapChan c fun ch => ch.noted rest n).supplyFeed c e.id cell
      (localFeed w.feed) cursor) := by
  obtain ⟨inHand, isReady, state, config, current, isQueue⟩ := Channel.anchored_fields
    ({ s.chan c with window := some id, state := .subst } : Channel) (localFeed w.feed) (s.feed (localFeed w.feed)).latest n
  rw [← State.chan_windowStarted] at inHand isReady state config current isQueue
  have entry' : entryPts (((s.windowStarted c id w n).chan c).pidOf .video) cell = some n := by
    rw [Channel.pidOf, config]
    exact entry
  have stays : ∀ k, entryPts (((s.windowStarted c id w n).chan c).pidOf .video) cell = some k →
      ((s.windowStarted c id w n).chan c).noneDue k ∧ ∀ i x, ((s.windowStarted c id w n).chan c).window = some i →
        (s.windowStarted c id w n).window i = some x → atOrAfter k x.stop = false := by
    intro k isK
    cases entry'.symm.trans isK
    refine ⟨by rw [Channel.noneDue, isQueue]; exact notDue, fun i x isI held => ?_⟩
    cases (current.symm.trans isI)
    cases (State.window_windowStarted (s := s) (c := c) (n := n)).symm.trans held
    exact atOrAfter_of_isAfter lasts
  have supplied := State.takeRead_feed (inHand.trans hand) (isReady.trans ready) answer (.inl state) feeds stays
  rw [Channel.takes_entry entry', ← isRead] at supplied
  rw [exec_takeRead_starts hand ready answer network entry windows record own begun lasts, exec_takeRead, supplied]
  rfl

end

end

end Sys2Proof.Machine

namespace Sys2Proof.Certificates.Slice0

open Sys2Proof.Machine

/-- Settles O20: the checks of NETWORK are the window test and then the avail test, each by its branches: a splice-out, the
retirements, a start of a window, and nothing at all. -/
theorem dueAvailSplicesOut : Obligations.DueAvailSplicesOut := by
  refine ⟨?_, fun s c r rest e cell n takes state entry => ⟨fun ev more why queue due noWindow => ?_, fun id more w windows fresh record own scheduled => ?_⟩,
    fun s c r rest e cell n takes network source entry notDue => ?_⟩
  · intro s c r rest cell n ev gone more clip clips p0 hand ready answer network noWindow queue entry due inTime steady isOpen room pod cells
      first late stays records u
    have on : (s.chan c).state ≠ .off := by rw [network]; decide
    have chan : (s.mapChan c fun ch => ch.noted rest n).chan c = (s.chan c).noted rest n := State.chan_mapChan_self ..
    refine ⟨ev.returnAt n, fun q ret => AvailEvent.returnAt_some ret, fun d ret duration => AvailEvent.returnAt_duration ret duration,
      AvailEvent.returnAt_none, ?_⟩
    have spliced := State.availTest_splicedOut (rest := rest) hand queue due inTime steady (State.logGate_iff.2 ⟨isOpen, room⟩) pod first
      late stays
    rw [exec_takeRead, State.takeRead_entry hand ready answer on entry, State.entryChecks_network (by rw [chan]; exact network),
      State.networkChecks_avail (by rw [chan]; exact network) (by rw [chan]; exact noWindow), spliced]
    have source : (((s.recordAll records).stores (s.channels.set c ((s.chan c).splicedOut rest n ev clip p0 gone more)) s.windows
        (s.clips.set clip { s.clip clip with plays := (s.clip clip).plays + 1 })).chan c).source = .clip clip 0 := by
      simp only [State.chan, State.stores, Fin.getElem_fin, Vector.getElem_set_self]
      rfl
    have playing : ((s.recordAll records).stores (s.channels.set c ((s.chan c).splicedOut rest n ev clip p0 gone more)) s.windows
        (s.clips.set clip { s.clip clip with plays := (s.clip clip).plays + 1 })).clip clip =
          { s.clip clip with plays := (s.clip clip).plays + 1 } := Vector.getElem_set_self ..
    refine congrArg Host.Outcome.next ((State.produce_clip source (by rw [playing]; exact cells.symm)).trans ?_)
    have windows : (s.recordAll records).windows = s.windows := by rw [State.recordAll_eq]
    rw [State.requestClip, playing, ← windows]
    simp only [State.requestSource, State.mapChan, State.stores, Vector.set_set, Fin.getElem_fin, Vector.getElem_set_self, Nat.mul_zero,
      Nat.add_zero, Nat.zero_add]
    rfl
  · obtain ⟨hand, ready, answer, -⟩ := takes
    intro late steady reasons
    rcases reasons with ⟨rfl, isLate⟩ | ⟨rfl, notLate, notSteady⟩ | ⟨rfl, notLate, isSteady, noRoom⟩
    · exact exec_takeRead_misses hand ready answer state entry queue due noWindow (why := .late) isLate
    · exact exec_takeRead_misses hand ready answer state entry queue due noWindow (why := .unsteady) ⟨notLate, notSteady⟩
    · have gate : s.logGate = false := Bool.eq_false_iff.2 fun yes => by
        obtain ⟨isOpen, room⟩ := State.logGate_iff.1 yes
        rcases noRoom with closed | short
        · exact closed isOpen
        · omega
      exact exec_takeRead_misses hand ready answer state entry queue due noWindow (why := .logFull) ⟨notLate, isSteady, gate⟩
  · obtain ⟨hand, ready, answer, -⟩ := takes
    refine ⟨fun ended => exec_takeRead_lapses hand ready answer state entry windows fresh record own scheduled ended,
      fun network begun lasts => ?_⟩
    intro f shown started
    have starts := exec_takeRead_starts hand ready answer network entry windows record own begun lasts
    refine ⟨fun latest => ?_, fun a p latest => ?_⟩
    · rw [State.windowStarted, latest] at starts
      exact starts
    · rw [State.windowStarted, latest] at starts
      exact starts
  · obtain ⟨hand, ready, answer, known⟩ := takes
    intro noted
    have isRead := State.entry_id known
    rw [← isRead] at known
    refine ⟨exec_takeRead_emits hand ready answer isRead known network entry notDue source,
      fun id more w windows record own scheduled => ⟨fun ended fresh noWindow => ?_, fun begun lasts m map => ?_⟩⟩
    · exact exec_takeRead_lapsed hand ready answer isRead known network entry notDue windows record own source scheduled ended fresh
        noWindow
    · intro f shown started
      have isStarted : s.windowStarted c id w n = (started (startFigures (s.feed f).latest n).1 (startFigures (s.feed f).latest n).2).mapChan c
          fun _ => ({ s.chan c with window := some id, state := .subst } : Channel).anchored f (s.feed f).latest n := rfl
      have chan : ((s.windowStarted c id w n).mapChan c fun ch => ch.noted rest n).chan c =
          ((s.windowStarted c id w n).chan c).noted rest n := State.chan_mapChan_self ..
      have isChan := State.chan_windowStarted (s := s) (c := c) (id := id) (w := w) (n := n)
      refine ⟨fun latest => ?_, fun a p i latest cells holds index => ?_⟩
      · have supplied := exec_takeRead_supplied hand ready answer isRead network entry notDue windows record own
          (cursor := none) begun lasts (by rw [isChan, latest]; rfl)
        have waits := State.supplyFeed_waits (s := (s.windowStarted c id w n).mapChan c fun ch => ch.noted rest n) (c := c)
          (network := cell) (f := f) known latest
        rw [State.readAnswered_mapChan, chan, isChan, isStarted, State.readAnswered_mapChan, latest] at waits
        rw [isStarted, latest] at supplied
        exact supplied.trans (congrArg Host.Outcome.next waits)
      · have supplied := exec_takeRead_supplied hand ready answer isRead network entry notDue windows record own
          (cursor := some a) begun lasts (by rw [isChan, latest]; rfl)
        have reads := State.supplyFeed_reads (s := (s.windowStarted c id w n).mapChan c fun ch => ch.noted rest n) (c := c) (e := e)
          (network := cell) map cells holds index
        rw [State.readHeld_mapChan, chan, isChan, isStarted, State.readHeld_mapChan, latest] at reads
        rw [isStarted, latest] at supplied
        exact supplied.trans (congrArg Host.Outcome.next reads)

end Sys2Proof.Certificates.Slice0
